-- ==== Sys2Proof/Word.lean ====
section
/-! DEFINITION. The words of the peripheral block (00_scope.md R8, R11) and the four-way port index. -/

namespace Sys2Proof

/-- A byte of the bus and of every 8-bit register (R8: "bus data 8 bits"). -/
abbrev Byte := BitVec 8

/-- A 16-bit register: counter, capture register, compare register (R8). -/
abbrev Half := BitVec 16

/-- The 24-bit operation word OW[23:0] that spells one operation (30_encoding.md R90). -/
abbrev OpWord := BitVec 24

/-- The port index: A, B, C, D, numbered 0, 1, 2, 3 (00_scope.md R8). -/
inductive PortId where
  | a | b | c | d
deriving DecidableEq, Repr

/-- One value for each of the four ports (the `name[i]` of 00_scope.md R13). -/
structure Ports (α : Type) where
  a : α
  b : α
  c : α
  d : α
deriving DecidableEq, Repr

end Sys2Proof
end

