-- ==== Sys2Proof/Config.lean ====
section
/-! DEFINITION. The parameters of 00_scope.md R9, which an implementation fixes, and the values the spec leaves
free. A configuration is plain data carried by the state and changed by no operation, so that a statement about
every state is a statement about every variant of the hardware. -/

namespace Sys2Proof

/-- A source of the pending bitmask (43_arbiter.md R230): external line k, or the timer. -/
inductive Source where
  | ext (line : Fin 8)
  | timer
deriving DecidableEq, Repr

/-- The parameters of the block (00_scope.md R9). `PHYS_MASK` is not here: it is the state element `physicalMask`,
set by CFGMASK. The power-on values are in `Machine.PowerOn`. -/
structure Config where
  /-- `IN_CONN[i]`: an input source is connected to port i. -/
  inConn : Ports Bool
  /-- `HAS_PCOP`: the programmable COP is present. -/
  hasPcop : Bool
  /-- `HAS_NCOP`: the non-programmable COP is present. -/
  hasNcop : Bool
  /-- `N_EXT`: the number of external interrupt lines (0 is met in 95_test_vectors.md V-A6). -/
  nExt : Fin 8
  /-- `PRIORITY`: the sources, highest priority first. -/
  priority : List Source
  /-- `VEC_TIMER`: an address of the external core. -/
  vecTimer : Nat
  /-- `VEC_EXT[k]`: addresses of the external core. -/
  vecExt : Vector Nat 8
  /-- `VEC_SWI`: read by no rule of the block (R7). -/
  vecSwi : Nat
  /-- `VEC_RESET`: read by no rule of the block (R7). -/
  vecReset : Nat
  /-- `ADDR_TOP`: the top of the core's address space. -/
  addrTop : Nat
  /-- `NCOP_CLR_BIT`: the designated clear bit of COPR. -/
  ncopClrBit : Fin 8
  /-- `INT_ACK_CYCLES`: the interrupt-acknowledge cost, below 65536. -/
  intAckCycles : Half
  /-- `COUNTER_INIT`: the timer counter's value at power-on and reset. -/
  counterInit : Half
  /-- `PCOP_DISARM_CLEAR`: the bits of the PCOP counter that a disarm clears. -/
  pcopDisarmClear : BitVec 21
deriving DecidableEq, Repr

/-- `NCOP_CLR_ADDR = ADDR_TOP - 1` (R9, 20_memory.md R65): where a write of the core becomes WRCOPR. -/
def Config.ncopClrAddr (cfg : Config) : Nat := cfg.addrTop - 1

/-- The default order of R237: the external lines in the order of their index, then the timer. -/
def Config.linesThenTimer (nExt : Fin 8) : List Source :=
  (((List.finRange 8).filter (· < nExt)).map Source.ext) ++ [Source.timer]

/-- FREE VALUE (93_implementation_defined.md U1, U3; log entry 1): the byte that the k-th read of something the block
does not define returns. -/
opaque Config.freeByte : Nat → Byte

/-- FREE VALUE (U6; log entry 2): the level on the pins of a port before the host's first PIN. -/
opaque Config.freePins : PortId → Byte

/-- FREE VALUE (U7; log entry 25): the level of the compare output pin before the first `Tcmp`, at the moment when k
operations have been answered. -/
opaque Config.freeCompareLevel : Nat → Bool

/-- OPEN (R9; log entry 3): the timer's vector address. -/
opaque Config.openVecTimer : Nat
/-- OPEN (R9; log entry 3): the external lines' vector addresses. -/
opaque Config.openVecExt : Fin 8 → Nat
/-- OPEN (R9; log entry 3): the software-interrupt vector address. -/
opaque Config.openVecSwi : Nat
/-- OPEN (R9; log entry 3): the reset vector address. -/
opaque Config.openVecReset : Nat
/-- OPEN (R9; log entry 3): the top of the core's address space. -/
opaque Config.openAddrTop : Nat

/-- The configuration of `State.reset`: the default test configuration of 95_test_vectors.md T401 with the values of
R9's last column; the addresses stay open. DESIGN CHOICE (log entry 4): no rule fixes the OPEN parameters. -/
def Config.standard : Config where
  inConn := ⟨true, true, true, true⟩
  hasPcop := true
  hasNcop := true
  nExt := 1
  priority := [.ext 0, .timer]
  vecTimer := Config.openVecTimer
  vecExt := Vector.ofFn Config.openVecExt
  vecSwi := Config.openVecSwi
  vecReset := Config.openVecReset
  addrTop := Config.openAddrTop
  ncopClrBit := 0
  intAckCycles := 10
  counterInit := 0xFFFC
  pcopDisarmClear := 0x007FFF

end Sys2Proof
end

