-- ==== Sys2Proof/Syntax.lean ====
section
/-! DEFINITION. The operations of the block, one constructor for each row of spec/opcode_table.json (30_encoding.md
R92). The block executes no instructions: each constructor is one act of the outside world on it (00_scope.md R3). -/

namespace Sys2Proof

/-- One operation. `rd`, `wr` and `peek` are the operational read, the write and the inspection read of a register of
20_memory.md R62. -/
inductive Instr where
  | rdPorta
  | wrPorta (data : Byte)
  | peekPorta
  | rdPortb
  | wrPortb (data : Byte)
  | peekPortb
  | rdPortc
  | wrPortc (data : Byte)
  | peekPortc
  | rdPortd
  | wrPortd (data : Byte)
  | peekPortd
  | rdDdra
  | wrDdra (data : Byte)
  | peekDdra
  | rdDdrb
  | wrDdrb (data : Byte)
  | peekDdrb
  | rdDdrc
  | wrDdrc (data : Byte)
  | peekDdrc
  | rdTcr
  | wrTcr (data : Byte)
  | peekTcr
  | rdTsr
  | wrTsr (data : Byte)
  | peekTsr
  | rdIcrh
  | wrIcrh (data : Byte)
  | peekIcrh
  | rdIcrl
  | wrIcrl (data : Byte)
  | peekIcrl
  | rdOcrh
  | wrOcrh (data : Byte)
  | peekOcrh
  | rdOcrl
  | wrOcrl (data : Byte)
  | peekOcrl
  | rdTrh
  | wrTrh (data : Byte)
  | peekTrh
  | rdTrl
  | wrTrl (data : Byte)
  | peekTrl
  | rdAtrh
  | wrAtrh (data : Byte)
  | peekAtrh
  | rdAtrl
  | wrAtrl (data : Byte)
  | peekAtrl
  | rdCoprst
  | wrCoprst (data : Byte)
  | peekCoprst
  | rdCopcr
  | wrCopcr (data : Byte)
  | peekCopcr
  /-- RD of an offset the map does not list (R255). -/
  | rdUnmapped (off : BitVec 5)
  /-- WR of an offset the map does not list (R256). -/
  | wrUnmapped (off : BitVec 5) (data : Byte)
  /-- PEEK of an offset the map does not list (R257). -/
  | peekUnmapped (off : BitVec 5)
  /-- n cycles elapsed (R252). -/
  | burn (n : Half)
  /-- A transition of the capture line: true = rising (R95, R181). -/
  | tcap (rising : Bool)
  /-- An assertion edge on an external line (R233). -/
  | irq (line : Fin 8)
  /-- Device reset, with the NCOP configuration bit as sampled (R302). -/
  | reset (fuse : Bool)
  /-- The servicing protocol (R235). -/
  | service
  /-- New levels on a port's pins (R128). -/
  | pin (idx : PortId) (v : Byte)
  /-- A write of the core to NCOP_CLR_ADDR (R220). -/
  | wrcopr (data : Byte)
  /-- Set a port's physical mask (R129). -/
  | cfgmask (idx : PortId) (v : Byte)
  /-- The device is configured and started (R130). -/
  | start
  /-- The named-state read-out, EXPORT (R253). -/
  | exportState
deriving DecidableEq, Repr

end Sys2Proof
end

