-- ==== Sys2Proof/WellFormed.lean ====
section
/-! DEFINITION. When an operation exists on a variant (20_memory.md R63, R64; 30_encoding.md R102, R107), and when a
configuration is one the spec admits (43_arbiter.md R237). -/

namespace Sys2Proof

/-- The offsets that the register map lists on this variant (R62, R63): 0x00 to 0x06, 0x12 to 0x1B, and 0x1D, 0x1E iff
`HAS_PCOP`. -/
def listed (cfg : Config) (off : BitVec 5) : Bool :=
  off ≤ 0x06#5 || (0x12#5 ≤ off && off ≤ 0x1B#5) || (cfg.hasPcop && (off == 0x1D#5 || off == 0x1E#5))

/-- The checks on an operation: the COPRST and COPCR rows are present iff `HAS_PCOP`; a fallback row takes only an
unlisted offset (R107); a line is below `N_EXT` (R96, R102). -/
def Instr.wellFormed (cfg : Config) : Instr → Bool
  | .rdPorta => true
  | .wrPorta _ => true
  | .peekPorta => true
  | .rdPortb => true
  | .wrPortb _ => true
  | .peekPortb => true
  | .rdPortc => true
  | .wrPortc _ => true
  | .peekPortc => true
  | .rdPortd => true
  | .wrPortd _ => true
  | .peekPortd => true
  | .rdDdra => true
  | .wrDdra _ => true
  | .peekDdra => true
  | .rdDdrb => true
  | .wrDdrb _ => true
  | .peekDdrb => true
  | .rdDdrc => true
  | .wrDdrc _ => true
  | .peekDdrc => true
  | .rdTcr => true
  | .wrTcr _ => true
  | .peekTcr => true
  | .rdTsr => true
  | .wrTsr _ => true
  | .peekTsr => true
  | .rdIcrh => true
  | .wrIcrh _ => true
  | .peekIcrh => true
  | .rdIcrl => true
  | .wrIcrl _ => true
  | .peekIcrl => true
  | .rdOcrh => true
  | .wrOcrh _ => true
  | .peekOcrh => true
  | .rdOcrl => true
  | .wrOcrl _ => true
  | .peekOcrl => true
  | .rdTrh => true
  | .wrTrh _ => true
  | .peekTrh => true
  | .rdTrl => true
  | .wrTrl _ => true
  | .peekTrl => true
  | .rdAtrh => true
  | .wrAtrh _ => true
  | .peekAtrh => true
  | .rdAtrl => true
  | .wrAtrl _ => true
  | .peekAtrl => true
  | .rdCoprst => cfg.hasPcop
  | .wrCoprst _ => cfg.hasPcop
  | .peekCoprst => cfg.hasPcop
  | .rdCopcr => cfg.hasPcop
  | .wrCopcr _ => cfg.hasPcop
  | .peekCopcr => cfg.hasPcop
  | .rdUnmapped off => !listed cfg off
  | .wrUnmapped off _ => !listed cfg off
  | .peekUnmapped off => !listed cfg off
  | .burn _ => true
  | .tcap _ => true
  | .irq line => line < cfg.nExt
  | .reset _ => true
  | .service => true
  | .pin _ _ => true
  | .wrcopr _ => true
  | .cfgmask _ _ => true
  | .start => true
  | .exportState => true

/-- `PRIORITY` orders exactly the known sources (R237, R231): each external line below `N_EXT` once, the timer once. -/
abbrev Config.WellFormed (cfg : Config) : Prop :=
  cfg.priority.Nodup ∧ Source.timer ∈ cfg.priority ∧ ∀ k : Fin 8, Source.ext k ∈ cfg.priority ↔ k < cfg.nExt

end Sys2Proof
end

