-- ==== Sys2Proof/Decode.lean ====
section
/-! DEFINITION. The decoder and the encoder of the 24-bit operation word (30_encoding.md R90 to R98, R102, R107). -/

namespace Sys2Proof

/-- Why a word spells no operation (R102). -/
inductive Reject where
  /-- The kind is 0xD, 0xE or 0xF. -/
  | reservedKind
  /-- A bit that the kind's format does not name is 1. -/
  | mustBeZero
  /-- An IRQ with `line >= N_EXT`. -/
  | noSuchLine
deriving DecidableEq, Repr

/-- OW[23:20] (R90). -/
def kindOf (w : OpWord) : BitVec 4 := w.extractLsb' 20 4
/-- OW[12:8], the offset of format B. -/
def offOf (w : OpWord) : BitVec 5 := w.extractLsb' 8 5
/-- OW[7:0], the data of formats B, P and D. -/
def dataOf (w : OpWord) : Byte := w.extractLsb' 0 8
/-- OW[15:0], the cycles of format C. -/
def cyclesOf (w : OpWord) : Half := w.extractLsb' 0 16
/-- OW[0], the bit of format S. -/
def bitOf (w : OpWord) : Bool := w.getLsbD 0
/-- OW[10:8], the line of format L. -/
def lineOf (w : OpWord) : Fin 8 := (w.extractLsb' 8 3).toFin

/-- The port of index 0 to 3 (R97). -/
def PortId.ofCode (c : BitVec 2) : PortId :=
  if c = 0#2 then .a else if c = 1#2 then .b else if c = 2#2 then .c else .d

/-- The index of a port. -/
def PortId.code : PortId → BitVec 2
  | .a => 0#2
  | .b => 1#2
  | .c => 2#2
  | .d => 3#2

/-- OW[9:8], the port of format P. -/
def portOf (w : OpWord) : PortId := PortId.ofCode (w.extractLsb' 8 2)

/-- The bits that the format of a kind does not name, which must be 0 (R90): formats B, C, S, L, Z, P, D. -/
def mustBeZero (kind : BitVec 4) : OpWord :=
  match kind.toNat with
  | 0 => 0x0FE0FF#24
  | 1 => 0x0FE000#24
  | 2 => 0x0FE0FF#24
  | 3 => 0x0F0000#24
  | 4 => 0x0FFFFE#24
  | 5 => 0x0FF8FF#24
  | 6 => 0x0FFFFE#24
  | 7 => 0x0FFFFF#24
  | 8 => 0x0FFC00#24
  | 9 => 0x0FFF00#24
  | 10 => 0x0FFC00#24
  | 11 => 0x0FFFFF#24
  | 12 => 0x0FFFFF#24
  | _ => 0#24

/-- The RD operation of an offset by the register map (R62, R107), the fallback where it is not listed. -/
def rdAt (cfg : Config) (off : BitVec 5) : Instr :=
  match off.toNat with
  | 0x00 => .rdPorta
  | 0x01 => .rdPortb
  | 0x02 => .rdPortc
  | 0x03 => .rdPortd
  | 0x04 => .rdDdra
  | 0x05 => .rdDdrb
  | 0x06 => .rdDdrc
  | 0x12 => .rdTcr
  | 0x13 => .rdTsr
  | 0x14 => .rdIcrh
  | 0x15 => .rdIcrl
  | 0x16 => .rdOcrh
  | 0x17 => .rdOcrl
  | 0x18 => .rdTrh
  | 0x19 => .rdTrl
  | 0x1A => .rdAtrh
  | 0x1B => .rdAtrl
  | 0x1D => if cfg.hasPcop then .rdCoprst else .rdUnmapped off
  | 0x1E => if cfg.hasPcop then .rdCopcr else .rdUnmapped off
  | _ => .rdUnmapped off

/-- The WR operation of an offset by the register map (R62, R107), the fallback where it is not listed. -/
def wrAt (cfg : Config) (off : BitVec 5) (data : Byte) : Instr :=
  match off.toNat with
  | 0x00 => .wrPorta data
  | 0x01 => .wrPortb data
  | 0x02 => .wrPortc data
  | 0x03 => .wrPortd data
  | 0x04 => .wrDdra data
  | 0x05 => .wrDdrb data
  | 0x06 => .wrDdrc data
  | 0x12 => .wrTcr data
  | 0x13 => .wrTsr data
  | 0x14 => .wrIcrh data
  | 0x15 => .wrIcrl data
  | 0x16 => .wrOcrh data
  | 0x17 => .wrOcrl data
  | 0x18 => .wrTrh data
  | 0x19 => .wrTrl data
  | 0x1A => .wrAtrh data
  | 0x1B => .wrAtrl data
  | 0x1D => if cfg.hasPcop then .wrCoprst data else .wrUnmapped off data
  | 0x1E => if cfg.hasPcop then .wrCopcr data else .wrUnmapped off data
  | _ => .wrUnmapped off data

/-- The PEEK operation of an offset by the register map (R62, R107), the fallback where it is not listed. -/
def peekAt (cfg : Config) (off : BitVec 5) : Instr :=
  match off.toNat with
  | 0x00 => .peekPorta
  | 0x01 => .peekPortb
  | 0x02 => .peekPortc
  | 0x03 => .peekPortd
  | 0x04 => .peekDdra
  | 0x05 => .peekDdrb
  | 0x06 => .peekDdrc
  | 0x12 => .peekTcr
  | 0x13 => .peekTsr
  | 0x14 => .peekIcrh
  | 0x15 => .peekIcrl
  | 0x16 => .peekOcrh
  | 0x17 => .peekOcrl
  | 0x18 => .peekTrh
  | 0x19 => .peekTrl
  | 0x1A => .peekAtrh
  | 0x1B => .peekAtrl
  | 0x1D => if cfg.hasPcop then .peekCoprst else .peekUnmapped off
  | 0x1E => if cfg.hasPcop then .peekCopcr else .peekUnmapped off
  | _ => .peekUnmapped off

/-- The operation that a word spells on a variant, or why it spells none (R102, R107). -/
def decode (cfg : Config) (w : OpWord) : Except Reject Instr :=
  if w &&& mustBeZero (kindOf w) ≠ 0#24 then .error .mustBeZero
  else
    match (kindOf w).toNat with
    | 0x0 => .ok (rdAt cfg (offOf w))
    | 0x1 => .ok (wrAt cfg (offOf w) (dataOf w))
    | 0x2 => .ok (peekAt cfg (offOf w))
    | 0x3 => .ok (.burn (cyclesOf w))
    | 0x4 => .ok (.tcap (bitOf w))
    | 0x5 => if lineOf w < cfg.nExt then .ok (.irq (lineOf w)) else .error .noSuchLine
    | 0x6 => .ok (.reset (bitOf w))
    | 0x7 => .ok .service
    | 0x8 => .ok (.pin (portOf w) (dataOf w))
    | 0x9 => .ok (.wrcopr (dataOf w))
    | 0xA => .ok (.cfgmask (portOf w) (dataOf w))
    | 0xB => .ok .start
    | 0xC => .ok .exportState
    | _ => .error .reservedKind

/-- Format B (R93). -/
def busWord (kind : BitVec 4) (off : BitVec 5) (data : Byte) : OpWord := kind ++ 0#7 ++ off ++ data
/-- Format C (R94). -/
def cyclesWord (n : Half) : OpWord := 0x3#4 ++ 0#4 ++ n
/-- Format S (R95). -/
def bitWord (kind : BitVec 4) (b : Bool) : OpWord := kind ++ 0#19 ++ BitVec.ofBool b
/-- Format L (R96). -/
def lineWord (line : Fin 8) : OpWord := 0x5#4 ++ 0#9 ++ (BitVec.ofFin line : BitVec 3) ++ 0#8
/-- Format Z (R98). -/
def plainWord (kind : BitVec 4) : OpWord := kind ++ 0#20
/-- Format P (R97). -/
def portWord (kind : BitVec 4) (idx : PortId) (v : Byte) : OpWord := kind ++ 0#10 ++ idx.code ++ v
/-- Format D (R98). -/
def dataWord (data : Byte) : OpWord := 0x9#4 ++ 0#12 ++ data

/-- The word of an operation (R92 to R98). -/
def encode : Instr → OpWord
  | .rdPorta => busWord 0x0#4 0x00#5 0#8
  | .wrPorta data => busWord 0x1#4 0x00#5 data
  | .peekPorta => busWord 0x2#4 0x00#5 0#8
  | .rdPortb => busWord 0x0#4 0x01#5 0#8
  | .wrPortb data => busWord 0x1#4 0x01#5 data
  | .peekPortb => busWord 0x2#4 0x01#5 0#8
  | .rdPortc => busWord 0x0#4 0x02#5 0#8
  | .wrPortc data => busWord 0x1#4 0x02#5 data
  | .peekPortc => busWord 0x2#4 0x02#5 0#8
  | .rdPortd => busWord 0x0#4 0x03#5 0#8
  | .wrPortd data => busWord 0x1#4 0x03#5 data
  | .peekPortd => busWord 0x2#4 0x03#5 0#8
  | .rdDdra => busWord 0x0#4 0x04#5 0#8
  | .wrDdra data => busWord 0x1#4 0x04#5 data
  | .peekDdra => busWord 0x2#4 0x04#5 0#8
  | .rdDdrb => busWord 0x0#4 0x05#5 0#8
  | .wrDdrb data => busWord 0x1#4 0x05#5 data
  | .peekDdrb => busWord 0x2#4 0x05#5 0#8
  | .rdDdrc => busWord 0x0#4 0x06#5 0#8
  | .wrDdrc data => busWord 0x1#4 0x06#5 data
  | .peekDdrc => busWord 0x2#4 0x06#5 0#8
  | .rdTcr => busWord 0x0#4 0x12#5 0#8
  | .wrTcr data => busWord 0x1#4 0x12#5 data
  | .peekTcr => busWord 0x2#4 0x12#5 0#8
  | .rdTsr => busWord 0x0#4 0x13#5 0#8
  | .wrTsr data => busWord 0x1#4 0x13#5 data
  | .peekTsr => busWord 0x2#4 0x13#5 0#8
  | .rdIcrh => busWord 0x0#4 0x14#5 0#8
  | .wrIcrh data => busWord 0x1#4 0x14#5 data
  | .peekIcrh => busWord 0x2#4 0x14#5 0#8
  | .rdIcrl => busWord 0x0#4 0x15#5 0#8
  | .wrIcrl data => busWord 0x1#4 0x15#5 data
  | .peekIcrl => busWord 0x2#4 0x15#5 0#8
  | .rdOcrh => busWord 0x0#4 0x16#5 0#8
  | .wrOcrh data => busWord 0x1#4 0x16#5 data
  | .peekOcrh => busWord 0x2#4 0x16#5 0#8
  | .rdOcrl => busWord 0x0#4 0x17#5 0#8
  | .wrOcrl data => busWord 0x1#4 0x17#5 data
  | .peekOcrl => busWord 0x2#4 0x17#5 0#8
  | .rdTrh => busWord 0x0#4 0x18#5 0#8
  | .wrTrh data => busWord 0x1#4 0x18#5 data
  | .peekTrh => busWord 0x2#4 0x18#5 0#8
  | .rdTrl => busWord 0x0#4 0x19#5 0#8
  | .wrTrl data => busWord 0x1#4 0x19#5 data
  | .peekTrl => busWord 0x2#4 0x19#5 0#8
  | .rdAtrh => busWord 0x0#4 0x1A#5 0#8
  | .wrAtrh data => busWord 0x1#4 0x1A#5 data
  | .peekAtrh => busWord 0x2#4 0x1A#5 0#8
  | .rdAtrl => busWord 0x0#4 0x1B#5 0#8
  | .wrAtrl data => busWord 0x1#4 0x1B#5 data
  | .peekAtrl => busWord 0x2#4 0x1B#5 0#8
  | .rdCoprst => busWord 0x0#4 0x1D#5 0#8
  | .wrCoprst data => busWord 0x1#4 0x1D#5 data
  | .peekCoprst => busWord 0x2#4 0x1D#5 0#8
  | .rdCopcr => busWord 0x0#4 0x1E#5 0#8
  | .wrCopcr data => busWord 0x1#4 0x1E#5 data
  | .peekCopcr => busWord 0x2#4 0x1E#5 0#8
  | .rdUnmapped off => busWord 0x0#4 off 0#8
  | .wrUnmapped off data => busWord 0x1#4 off data
  | .peekUnmapped off => busWord 0x2#4 off 0#8
  | .burn n => cyclesWord n
  | .tcap rising => bitWord 0x4#4 rising
  | .irq line => lineWord line
  | .reset fuse => bitWord 0x6#4 fuse
  | .service => plainWord 0x7#4
  | .pin idx v => portWord 0x8#4 idx v
  | .wrcopr data => dataWord data
  | .cfgmask idx v => portWord 0xA#4 idx v
  | .start => plainWord 0xB#4
  | .exportState => plainWord 0xC#4

/-- An instruction's bits as spec/opcode_table.json numbers them, as an operation word: the bits above `nbits` are 0. -/
def tableWord (nbits w : Nat) : OpWord := BitVec.ofNat 24 (w % 2 ^ nbits)

/-- The operation the decoder reads from the table's bits, on the variant `Config.standard`. -/
def decodeTableWord (nbits w : Nat) : Option Instr :=
  if w % 2 ^ nbits < 2 ^ 24 then (decode Config.standard (tableWord nbits w)).toOption else none

end Sys2Proof
end

