-- ==== Sys2Proof/Machine/State.lean ====
section
/-! DEFINITION. The state of the block (10_state.md R20 to R45), its outputs (R50), the reasons an operation stops, and
the values after power-on and after the boot reset (R52). -/

namespace Sys2Proof.Machine

/-- One port's elements (R21 to R25). -/
structure Port where
  /-- `physical_mask[i]` (R21): which bits exist on this variant. -/
  physicalMask : Byte
  /-- `direction[i]` (R22): 1 = output. -/
  direction : Byte
  /-- `output_latch[i]` (R23). -/
  outputLatch : Byte
  /-- `last_sampled_input[i]` (R24). -/
  lastSampledInput : Byte
  /-- `pin_in[i]` (R25): the levels the environment drives, not block state. -/
  pinIn : Byte
deriving DecidableEq, Repr

/-- The low-byte latch of one counter readout: `trl_buf[a]` and `trl_latched[a]` (R36). -/
structure ReadLatch where
  buf : Byte
  latched : Bool
deriving DecidableEq, Repr

/-- The Timer/Counter Engine (R27 to R36). -/
structure Timer where
  /-- `counter` (R27). -/
  counter : Half
  /-- `prescaler` (R28). -/
  prescaler : BitVec 4
  /-- `input_capture_reg` (R29). -/
  inputCaptureReg : Half
  /-- `output_compare_reg` (R30). -/
  outputCompareReg : Half
  /-- `tcr` (R31). -/
  tcr : Byte
  /-- `tsr` (R32). -/
  tsr : Byte
  /-- `status_seen` (R33). -/
  statusSeen : Byte
  /-- `capture_inhibited` (R34). -/
  captureInhibited : Bool
  /-- `compare_inhibited` (R35). -/
  compareInhibited : Bool
  /-- `trl_buf[0]`, `trl_latched[0]` (R36): the primary readout TR. -/
  trLatch : ReadLatch
  /-- `trl_buf[1]`, `trl_latched[1]` (R36): the alternate readout ATR. -/
  atrLatch : ReadLatch
deriving DecidableEq, Repr

/-- The programmable COP (R38 to R40). Where it is absent no operation reads or writes these elements. -/
structure Pcop where
  /-- `pcop_counter` (R38). -/
  counter : BitVec 21
  /-- `disarm_stage` (R39): 0 or 1. -/
  disarmStage : Byte
  /-- `copcr` (R40). -/
  copcr : Byte
deriving DecidableEq, Repr

/-- The non-programmable COP (R41, R42). Where it is absent no operation reads or writes these elements. -/
structure Ncop where
  /-- `ncop_counter` (R41). -/
  counter : BitVec 17
  /-- `ncop_enabled` (R42). -/
  enabled : Bool
deriving DecidableEq, Repr

/-- `phase` (R45): the lifecycle. -/
inductive Phase where
  | config | started | running
deriving DecidableEq, Repr

/-- Which watchdog requests a reset (R50). -/
inductive Watchdog where
  | pcop | ncop
deriving DecidableEq, Repr

/-- The core's registers that the service protocol has it push (R235). -/
inductive CoreReg where
  | pc | x | a | cc
deriving DecidableEq, Repr

/-- The output events (R50). -/
inductive Event where
  /-- The output-changed notification: the composed register value and the direction mask (R132). -/
  | portOut (i : PortId) (value dirmask : Byte)
  /-- The compare-output callback with the configured level (R180). -/
  | tcmp (level : Bool)
  /-- A pulsed device-reset request (R224). -/
  | resetReq (src : Watchdog)
  /-- The core pushes that register (R235). -/
  | push (r : CoreReg)
  /-- The core's global interrupt-disable flag is set (R235). -/
  | setI
  /-- The core loads its program counter from the vector at this address (R236). -/
  | vector (addr : Nat)
deriving DecidableEq, Repr

/-- One (name, value) pair of EXPORT, the value at its width (R253). -/
inductive ExportItem where
  | tcr (v : Byte)
  | tsr (v : Byte)
  | icr (v : Half)
  | ocr (v : Half)
  | ps (v : BitVec 4)
  | tr (v : Half)
  | coprst (v : Byte)
  | copcr (v : Byte)
  | pcop (v : BitVec 21)
  | ncop (v : BitVec 17)
deriving DecidableEq, Repr

/-- Why an operation is not applied (44_system.md R258). -/
inductive Refused where
  /-- The word spells no operation (R102). -/
  | invalidWord (why : Reject)
  /-- A run-time operation in CONFIG or STARTED. -/
  | beforeBoot
  /-- A run-time operation while a watchdog's reset request is outstanding (R306). -/
  | resetOutstanding
  /-- START outside CONFIG (R130). -/
  | alreadyStarted
  /-- RESET in CONFIG (R302). -/
  | notStarted
deriving DecidableEq, Repr

/-- What the host is told of one operation (00_scope.md R15, 70_reset_and_hazards.md R326). -/
inductive Response where
  /-- Done, with nothing returned. -/
  | done
  /-- Done, with the byte a read returns. -/
  | data (v : Byte)
  /-- Done, with the list EXPORT returns. -/
  | values (items : List ExportItem)
  /-- Refused: not applied. -/
  | refused (why : Refused)
deriving DecidableEq, Repr

/-- The state: the block's elements (R20 to R45), its output trace (R50), and the model's own fields: the configuration,
the responses, the operation words the host will apply next, and the number of free bytes drawn. -/
structure State where
  /-- The parameters of R9 (R53: not state of the block; no operation changes them). -/
  cfg : Config
  /-- Ports A to D. -/
  ports : Ports Port
  /-- The Timer/Counter Engine. -/
  timer : Timer
  /-- The programmable COP. -/
  pcop : Pcop
  /-- The non-programmable COP. -/
  ncop : Ncop
  /-- `pending` (R43, R231; log entry 21) in a wider word: bit k = external line k, bit `N_EXT` = the timer. -/
  pending : Byte
  /-- `reset_pending` (R44). -/
  resetPending : Bool
  /-- `phase` (R45). -/
  phase : Phase
  /-- The output trace (R50), oldest event first. -/
  trace : List Event
  /-- The outcome of each operation (R15, R326), oldest first: the model's own. -/
  results : List Response
  /-- How many free bytes have been drawn (U1, U3): the model's own. -/
  draws : Nat
  /-- The operation words the host will apply, next first (30_encoding.md R108; log entry 8): the model's own. -/
  ops : List OpWord
deriving DecidableEq, Repr

/-- The two fatal conditions (60_exceptions.md R270): the spec's own, so stopping there is safe. -/
inductive Fault where
  /-- `Fatal(1)`, raised by CFGMASK after START (R271). Safe: the spec gives no next state. -/
  | configOrder
  /-- `Fatal(2)`, raised by SERVICE with no known pending bit (R272). Safe: the spec gives no next state. -/
  | arbiterInvariant
deriving DecidableEq, Repr

/-- The code of a fault, the spec's own numbering (R270). -/
def Fault.code : Fault → Nat
  | .configOrder => 1
  | .arbiterInvariant => 2

/-- Why `exec` answers no next state and no fault. -/
inductive Refusal where
  /-- Raised by an arm of `exec` that has no meaning yet (none is left). Safe: nothing is claimed of it. -/
  | notModelled (mnemonic : String)
  /-- Raised by an operation that R258 refuses: not applied. Safe: `step` goes on with the unchanged state (R259). -/
  | operation (why : Refused)
deriving DecidableEq, Repr

/-- The outcome of an operation (R15): done, fatal, refused. -/
abbrev Outcome := Host.Outcome State Fault Refusal

/-- The values OPEN at power-on (R9, R25, R301): arguments of the model. -/
structure PowerOn where
  /-- `LATCH_POWERON[i]`. -/
  latch : Ports Byte
  /-- `INPUT_POWERON[i]`. -/
  input : Ports Byte
  /-- The initial `pin_in[i]`. -/
  pins : Ports Byte
  /-- `ICR_POWERON`. -/
  icr : Half
  /-- `OCR_POWERON`. -/
  ocr : Half
  /-- `IEDG_POWERON`. -/
  iedg : Bool
deriving DecidableEq, Repr

/-- The power-on values of `State.reset`. DESIGN CHOICE (log entry 5): zero; the pins stay free (log entry 2). -/
def PowerOn.standard : PowerOn where
  latch := ⟨0, 0, 0, 0⟩
  input := ⟨0, 0, 0, 0⟩
  pins := ⟨Config.freePins .a, Config.freePins .b, Config.freePins .c, Config.freePins .d⟩
  icr := 0
  ocr := 0
  iedg := false

/-- A port after power-on (R52): mask 0xFF until CFGMASK, every bit an input. -/
def Port.powerOn (latch input pins : Byte) : Port where
  physicalMask := 0xFF
  direction := 0
  outputLatch := latch
  lastSampledInput := input
  pinIn := pins

/-- The block right after construction (R301: the power-on column of R52), with no operation waiting. -/
def State.powerOn (cfg : Config) (p : PowerOn) : State where
  cfg := cfg
  ports :=
    ⟨Port.powerOn p.latch.a p.input.a p.pins.a, Port.powerOn p.latch.b p.input.b p.pins.b,
     Port.powerOn p.latch.c p.input.c p.pins.c, Port.powerOn p.latch.d p.input.d p.pins.d⟩
  timer :=
    { counter := cfg.counterInit
      prescaler := 0
      inputCaptureReg := p.icr
      outputCompareReg := p.ocr
      tcr := if p.iedg then 0x02 else 0x00
      tsr := 0
      statusSeen := 0
      captureInhibited := false
      compareInhibited := false
      trLatch := ⟨cfg.counterInit.setWidth 8, false⟩
      atrLatch := ⟨cfg.counterInit.setWidth 8, false⟩ }
  pcop := { counter := 0, disarmStage := 0, copcr := 0 }
  ncop := { counter := 0, enabled := false }
  pending := 0
  resetPending := false
  phase := .config
  trace := []
  results := []
  draws := 0
  ops := []

/-- The machine right after reset: the state S0 of 95_test_vectors.md T402, which the boot (START, RESET FUSE=0) makes
of the power-on state (R52, R302, R307), before any operation waits. DESIGN CHOICE (log entry 7): after the boot, with
FUSE=0. -/
def State.reset : State :=
  { State.powerOn Config.standard PowerOn.standard with phase := .running }

end Sys2Proof.Machine
end

