-- ==== Sys2Proof/Machine/Operands.lean ====
section
/-! DEFINITION. The views of the state that operations read and the halves they write: port selection, the composed port
value (40_port.md), the bytes of 16-bit registers (20_memory.md R67), the counter readouts (41_timer.md section 6) and the
list of EXPORT (44_system.md R253). -/

namespace Sys2Proof

/-- The element of index i. -/
def Ports.get {α : Type} (p : Ports α) : PortId → α
  | .a => p.a
  | .b => p.b
  | .c => p.c
  | .d => p.d

/-- The element of index i replaced. -/
def Ports.set {α : Type} (p : Ports α) (i : PortId) (x : α) : Ports α :=
  match i with
  | .a => { p with a := x }
  | .b => { p with b := x }
  | .c => { p with c := x }
  | .d => { p with d := x }

/-- Every element changed alike. -/
def Ports.map {α β : Type} (f : α → β) (p : Ports α) : Ports β := ⟨f p.a, f p.b, f p.c, f p.d⟩

namespace Machine

/-- Bits 15:8, at the even offset (R67). -/
def hiByte (v : Half) : Byte := v.extractLsb' 8 8
/-- Bits 7:0, at the odd offset (R67). -/
def loByte (v : Half) : Byte := v.extractLsb' 0 8
/-- `hi ‖ lo` (30_encoding.md R101). -/
def joinBytes (hi lo : Byte) : Half := hi ++ lo

/-- Port i of the state. -/
def State.port (s : State) (i : PortId) : Port := s.ports.get i

/-- `compose(i)`, the externally visible register value (R121). -/
def compose (p : Port) : Byte :=
  ((p.outputLatch &&& p.direction) ||| (p.lastSampledInput &&& ~~~p.direction)) &&& p.physicalMask

/-- The port after sampling its pins, when an input source is connected (R122 step 1, both masks as written). -/
def samplePins (connected : Bool) (p : Port) : Port :=
  if connected then
    { p with lastSampledInput := (p.pinIn &&& (~~~p.direction &&& p.physicalMask)) &&& p.physicalMask }
  else p

/-- The pin-level view of a port (10_state.md R51): the level at which the block drives bit b, if it drives it. -/
def pinDrive (p : Port) (b : Fin 8) : Option Bool :=
  if p.direction.getLsbD b then some (p.outputLatch.getLsbD b) else none

/-- The level of the last `Tcmp` of a trace, if it has one (R51). -/
def lastTcmp : List Event → Option Bool
  | [] => none
  | .tcmp level :: later => (lastTcmp later).or (some level)
  | .portOut _ _ _ :: later | .resetReq _ :: later | .push _ :: later | .setI :: later | .vector _ :: later => lastTcmp later

/-- The level of the compare output pin (R51): that of the last `Tcmp`; before the first one any level (U7; log entry 25). -/
def comparePin (s : State) : Bool := (lastTcmp s.trace).getD (Config.freeCompareLevel s.results.length)

/-- The low byte of a counter readout: the latched byte during a sequence, else the live one (R172, R174). -/
def readoutLow (l : ReadLatch) (counter : Half) : Byte := if l.latched then l.buf else loByte counter

/-- CM, the timeout select of `copcr` (00_scope.md R10). -/
def timeoutSelect (copcr : Byte) : Nat := (copcr.extractLsb' 0 2).toNat

/-- The timeout threshold T = 2^(15 + 2*CM) cycles (42_watchdog.md R207). -/
def threshold (copcr : Byte) : Nat := 2 ^ (15 + 2 * timeoutSelect copcr)

/-- The result of EXPORT, in its order (R253). -/
def exportItems (s : State) : List ExportItem :=
  [.tcr s.timer.tcr, .tsr s.timer.tsr, .icr s.timer.inputCaptureReg, .ocr s.timer.outputCompareReg,
    .ps s.timer.prescaler, .tr s.timer.counter]
  ++ (if s.cfg.hasPcop then [.coprst s.pcop.disarmStage, .copcr s.pcop.copcr, .pcop s.pcop.counter] else [])
  ++ (if s.cfg.hasNcop then [.ncop s.ncop.counter] else [])

end Machine

end Sys2Proof
end

