-- ==== Sys2Proof/Machine/Flags.lean ====
section
/-! DEFINITION. The flags of the timer and the pending bitmask: the masks of 00_scope.md R10, setting a flag, the
recomputation of the timer's pending bit and the two-step clearing of a flag (41_timer.md R151, R152), the layout and
priority of `pending` (43_arbiter.md R231, R237). -/

namespace Sys2Proof.Machine

/-- The three flags of `tsr` and, at the same positions, the three enables of `tcr` (00_scope.md R10). -/
inductive TimerFlag where
  /-- ICF, bit 7. -/
  | icf
  /-- OCF, bit 6. -/
  | ocf
  /-- TOF, bit 5. -/
  | tof
deriving DecidableEq, Repr

/-- The bit number of a flag (R10). PRESUMED by the spec (decision D4; log entry 16), as every position in this file. -/
def TimerFlag.bit : TimerFlag → Nat
  | .icf => 7
  | .ocf => 6
  | .tof => 5

/-- The bit of a flag as a mask. -/
def TimerFlag.mask : TimerFlag → Byte
  | .icf => 0x80
  | .ocf => 0x40
  | .tof => 0x20

/-- `EVENT_MASK` (R10): the three flags. -/
def eventMask : Byte := 0xE0
/-- `TCR_VALID` (R10): the bits of `tcr` that a write sets. -/
def tcrValid : Byte := 0xE3
/-- The bit IEDG of `tcr` (R10), the only one a reset keeps (10_state.md R52). -/
def iedgMask : Byte := 0x02
/-- `COPCR_WMASK` (R10): PCOPE and CM. -/
def copcrWritable : Byte := 0x07
/-- COPF, the sticky fault flag of `copcr` (R10). -/
def copfMask : Byte := 0x10
/-- PCOPE, the enable of `copcr` (R10). -/
def pcopeMask : Byte := 0x04

/-- `KNOWN_MASK = 2^(N_EXT + 1) - 1` (R231). -/
def knownMask (cfg : Config) : Byte := BitVec.ofNat 8 (2 ^ (cfg.nExt.val + 1) - 1)

/-- The bit of `pending` that belongs to a source (R231). -/
def sourceBit (cfg : Config) : Source → Nat
  | .ext k => k.val
  | .timer => cfg.nExt.val

/-- The word with bit k set to b. -/
def putBit (v : Byte) (k : Nat) (b : Bool) : Byte :=
  if b then v ||| (1#8 <<< k) else v &&& ~~~(1#8 <<< k)

/-- Whether some enabled flag is set: `(tcr & tsr & 0xE0) != 0` (R151). -/
def timerEvent (t : Timer) : Bool := t.tcr &&& t.tsr &&& eventMask != 0#8

/-- `recompute_timer_pending()` (R151). -/
def State.recomputeTimerPending (s : State) : State :=
  { s with pending := putBit s.pending s.cfg.nExt.val (timerEvent s.timer) }

/-- A flag of `tsr` set. -/
def State.setFlag (s : State) (f : TimerFlag) : State :=
  { s with timer := { s.timer with tsr := s.timer.tsr ||| f.mask } }

/-- `clear_flag(b)` (R152): flag and seen bit cleared, the pending bit recomputed. -/
def State.clearFlag (s : State) (f : TimerFlag) : State :=
  State.recomputeTimerPending
    { s with
      timer :=
        { s.timer with
          tsr := s.timer.tsr &&& ~~~f.mask
          statusSeen := s.timer.statusSeen &&& ~~~f.mask } }

/-- The follow-up access of a flag: it clears the flag iff it has been seen (R160, R168, R172). -/
def State.clearIfSeen (s : State) (f : TimerFlag) : State :=
  if s.timer.statusSeen.getLsbD f.bit then s.clearFlag f else s

/-- The first source in `PRIORITY` whose pending bit is 1 (R235 step 4, R237). -/
def pickSource (cfg : Config) (pending : Byte) : Option Source :=
  cfg.priority.find? fun src => pending.getLsbD (sourceBit cfg src)

end Sys2Proof.Machine
end

