-- ==== Sys2Proof/Machine/Ops.lean ====
section
/-! DEFINITION. The shared operations: the outputs, the legality of an operation (44_system.md R258), port accesses
(40_port.md), the cycle advance (41_timer.md R180, 42_watchdog.md R212, R222, 44_system.md R251), the entry of the service
protocol (43_arbiter.md R235) and the device reset (70_reset_and_hazards.md R302). The block has no return operation
(60_exceptions.md R279). -/

namespace Sys2Proof.Machine

/-! ### Outputs and single elements -/

/-- `emit E` (00_scope.md R14). -/
def State.emit (s : State) (e : Event) : State := { s with trace := s.trace ++ [e] }

/-- The host is told the outcome of the operation (R15). -/
def State.respond (s : State) (r : Response) : State := { s with results := s.results ++ [r] }

/-- Port i replaced. -/
def State.setPort (s : State) (i : PortId) (p : Port) : State := { s with ports := s.ports.set i p }

/-- The timer replaced. -/
def State.setTimer (s : State) (t : Timer) : State := { s with timer := t }

/-- The programmable COP replaced. -/
def State.setPcop (s : State) (p : Pcop) : State := { s with pcop := p }

/-- The non-programmable COP replaced. -/
def State.setNcop (s : State) (n : Ncop) : State := { s with ncop := n }

/-- A read of something the block does not define (U1, U3): a fresh free byte, and no element of the block changes. -/
def State.readFree (s : State) : State :=
  { s.respond (.data (Config.freeByte s.draws)) with draws := s.draws + 1 }

/-! ### Legality -/

/-- The last row but one of R258: the run-time operations are applied in RUNNING with no reset request outstanding. -/
def whenRunning (s : State) (k : Outcome) : Outcome :=
  match s.phase, s.resetPending with
  | .running, false => k
  | .running, true => .refused (.operation .resetOutstanding)
  | .started, _ => .refused (.operation .beforeBoot)
  | .config, _ => .refused (.operation .beforeBoot)

/-! ### Ports -/

/-- `RD.PORTi` (R122): sample, then return the composed value. -/
def readPort (i : PortId) (s : State) : State :=
  let p := samplePins (s.cfg.inConn.get i) (s.port i)
  (s.setPort i p).respond (.data (compose p))

/-- `WR.PORTi` (R123): latch the masked value; notify iff a changed bit is an output. -/
def writeLatch (i : PortId) (data : Byte) (s : State) : State :=
  let p := s.port i
  let v := data &&& p.physicalMask
  let diff := v ^^^ p.outputLatch
  let q := { p with outputLatch := v }
  let s' := s.setPort i q
  if diff ≠ 0#8 ∧ diff &&& p.direction ≠ 0#8 then s'.emit (.portOut i (compose q) q.direction) else s'

/-- `WR.DDRi` (R126): set the masked direction; notify iff it changed. -/
def writeDirection (i : PortId) (data : Byte) (s : State) : State :=
  let p := s.port i
  let v := data &&& p.physicalMask
  if v ≠ p.direction then
    let q := { p with direction := v }
    (s.setPort i q).emit (.portOut i (compose q) q.direction)
  else s

/-! ### Cycle advance -/

/-- A compare match (R180 step 7): OCF is set, and `Tcmp` is emitted unless inhibited. -/
def compareMatch (s : State) : State :=
  let s' := s.setFlag .ocf
  if s.timer.compareInhibited then s' else s'.emit (.tcmp (s.timer.tcr.getLsbD 0))

/-- `TimerBurn(n)` (R180). -/
def timerBurn (n : Nat) (s : State) : State :=
  let total := s.timer.prescaler.toNat + n
  let inc := total / 16
  let pre := s.timer.counter.toNat
  let post := pre + inc
  let ocr := s.timer.outputCompareReg.toNat
  let s1 := if pre < 0x10000 ∧ 0x10000 ≤ post then s.setFlag .tof else s
  let s2 := if pre < ocr ∧ ocr ≤ post then compareMatch s1 else s1
  State.recomputeTimerPending
    (s2.setTimer { s2.timer with counter := BitVec.ofNat 16 post, prescaler := BitVec.ofNat 4 total })

/-- A reset request (R224). -/
def requestReset (src : Watchdog) (s : State) : State := { s.emit (.resetReq src) with resetPending := true }

/-- The timeout test of R212 step 2. -/
def pcopTimesOut (n : Nat) (p : Pcop) : Bool :=
  p.copcr.getLsbD 2 && decide (threshold p.copcr ≤ p.counter.toNat % threshold p.copcr + n)

/-- `PcopBurn(n)` (R212). -/
def pcopBurn (n : Nat) (s : State) : State :=
  let next := BitVec.ofNat 21 (s.pcop.counter.toNat + n)
  if pcopTimesOut n s.pcop then
    requestReset .pcop (s.setPcop { s.pcop with copcr := s.pcop.copcr ||| copfMask, counter := next })
  else s.setPcop { s.pcop with counter := next }

/-- `NcopBurn(n)` (R222). -/
def ncopBurn (n : Nat) (s : State) : State :=
  let sum := s.ncop.counter.toNat + n
  let s' := s.setNcop { s.ncop with counter := BitVec.ofNat 17 sum }
  if 2 ^ 17 ≤ sum ∧ s.ncop.enabled = true then requestReset .ncop s' else s'

/-- `BurnAll(n)` (R251): timer, PCOP, NCOP, in that order. -/
def burnAll (n : Nat) (s : State) : State :=
  let s1 := timerBurn n s
  let s2 := if s.cfg.hasPcop then pcopBurn n s1 else s1
  if s.cfg.hasNcop then ncopBurn n s2 else s2

/-! ### Service entry -/

/-- The vector address of a source (R235 step 5). -/
def vectorOf (cfg : Config) : Source → Nat
  | .ext k => cfg.vecExt.get k
  | .timer => cfg.vecTimer

/-- The serviced external bit cleared; the timer bit is not (R235 step 5). -/
def acknowledge (src : Source) (pending : Byte) : Byte :=
  match src with
  | .ext k => putBit pending k.val false
  | .timer => pending

/-- What the core is told at entry (R235 steps 2, 3 and 5). -/
def entryEvents (cfg : Config) (src : Source) : List Event :=
  [.push .pc, .push .x, .push .a, .push .cc, .setI, .vector (vectorOf cfg src)]

/-- Steps 2 to 5 of R235 for the source picked. -/
def enterService (src : Source) (s : State) : State :=
  { s with
    trace := s.trace ++ entryEvents s.cfg src
    pending := acknowledge src s.pending }

/-- The service protocol, the block's only exception entry (R235, R238): pick one source, have the core save its
registers and mask interrupts, send it to the vector, and charge the acknowledge cycles. PRIORITY without the pending
source: log entry 13. -/
def serviceEntry (s : State) : Outcome :=
  if s.pending &&& knownMask s.cfg = 0#8 then .fault .arbiterInvariant
  else
    match pickSource s.cfg s.pending with
    | none => .fault .arbiterInvariant
    | some src => .next ((burnAll s.cfg.intAckCycles.toNat (enterService src s)).respond .done)

/-! ### Device reset -/

/-- The timer's device-reset column of 10_state.md R52 (decision D25; log entry 17). -/
def resetTimer (cfg : Config) (t : Timer) : Timer :=
  { t with
    counter := cfg.counterInit
    prescaler := 0
    tcr := t.tcr &&& iedgMask
    statusSeen := 0
    captureInhibited := false
    compareInhibited := false
    trLatch := ⟨loByte cfg.counterInit, false⟩
    atrLatch := ⟨loByte cfg.counterInit, false⟩ }

/-- The programmable COP's device-reset column. -/
def resetPcop (p : Pcop) : Pcop := { counter := 0, disarmStage := 0, copcr := p.copcr &&& copfMask }

/-- Steps 2 to 5 of R302. -/
def deviceReset (fuse : Bool) (s : State) : State :=
  State.recomputeTimerPending
    { s with
      ports := s.ports.map fun p => { p with direction := 0 }
      timer := resetTimer s.cfg s.timer
      pcop := if s.cfg.hasPcop then resetPcop s.pcop else s.pcop
      ncop := if s.cfg.hasNcop then { counter := 0, enabled := fuse } else s.ncop
      pending := 0
      phase := .running
      resetPending := false }

end Sys2Proof.Machine
end

