-- ==== Sys2Proof/Machine/Arbiter.lean ====
section
/-! DEFINITION. The Interrupt Arbiter operations (43_arbiter.md): IRQ, SERVICE. -/

namespace Sys2Proof.Machine

/-- `IRQ` (R233): the line's pending bit is set; a line that does not exist spells no operation (R102; log entry 10). -/
def execIrq (line : Fin 8) (s : State) : Outcome :=
  if line < s.cfg.nExt then
    whenRunning s (.next ({ s with pending := putBit s.pending line.val true }.respond .done))
  else .refused (.operation (.invalidWord .noSuchLine))

/-- `SERVICE` (R235). -/
def execService (s : State) : Outcome :=
  whenRunning s (serviceEntry s)

end Sys2Proof.Machine
end

