-- ==== Sys2Proof/Machine/Port.lean ====
section
/-! DEFINITION. The Port Controller operations (40_port.md): RD, WR, PEEK of PORTA to PORTD and of DDRA to DDRC; PIN, CFGMASK, START. -/

namespace Sys2Proof.Machine

/-- `RD.PORTA` (R122). -/
def execRdPorta (s : State) : Outcome :=
  whenRunning s (.next (readPort .a s))

/-- `WR.PORTA` (R123). -/
def execWrPorta (data : Byte) (s : State) : Outcome :=
  whenRunning s (.next ((writeLatch .a data s).respond .done))

/-- `PEEK.PORTA` (R124): no sampling; legal in every phase (R258). -/
def execPeekPorta (s : State) : Outcome :=
  .next (s.respond (.data (compose (s.port .a))))

/-- `RD.PORTB` (R122). -/
def execRdPortb (s : State) : Outcome :=
  whenRunning s (.next (readPort .b s))

/-- `WR.PORTB` (R123). -/
def execWrPortb (data : Byte) (s : State) : Outcome :=
  whenRunning s (.next ((writeLatch .b data s).respond .done))

/-- `PEEK.PORTB` (R124): no sampling; legal in every phase (R258). -/
def execPeekPortb (s : State) : Outcome :=
  .next (s.respond (.data (compose (s.port .b))))

/-- `RD.PORTC` (R122). -/
def execRdPortc (s : State) : Outcome :=
  whenRunning s (.next (readPort .c s))

/-- `WR.PORTC` (R123). -/
def execWrPortc (data : Byte) (s : State) : Outcome :=
  whenRunning s (.next ((writeLatch .c data s).respond .done))

/-- `PEEK.PORTC` (R124): no sampling; legal in every phase (R258). -/
def execPeekPortc (s : State) : Outcome :=
  .next (s.respond (.data (compose (s.port .c))))

/-- `RD.PORTD` (R122). -/
def execRdPortd (s : State) : Outcome :=
  whenRunning s (.next (readPort .d s))

/-- `WR.PORTD` (R123). -/
def execWrPortd (data : Byte) (s : State) : Outcome :=
  whenRunning s (.next ((writeLatch .d data s).respond .done))

/-- `PEEK.PORTD` (R124): no sampling; legal in every phase (R258). -/
def execPeekPortd (s : State) : Outcome :=
  .next (s.respond (.data (compose (s.port .d))))

/-- `RD.DDRA` (R125). -/
def execRdDdra (s : State) : Outcome :=
  whenRunning s (.next (s.respond (.data (s.port .a).direction)))

/-- `WR.DDRA` (R126). -/
def execWrDdra (data : Byte) (s : State) : Outcome :=
  whenRunning s (.next ((writeDirection .a data s).respond .done))

/-- `PEEK.DDRA` (R127). -/
def execPeekDdra (s : State) : Outcome :=
  .next (s.respond (.data (s.port .a).direction))

/-- `RD.DDRB` (R125). -/
def execRdDdrb (s : State) : Outcome :=
  whenRunning s (.next (s.respond (.data (s.port .b).direction)))

/-- `WR.DDRB` (R126). -/
def execWrDdrb (data : Byte) (s : State) : Outcome :=
  whenRunning s (.next ((writeDirection .b data s).respond .done))

/-- `PEEK.DDRB` (R127). -/
def execPeekDdrb (s : State) : Outcome :=
  .next (s.respond (.data (s.port .b).direction))

/-- `RD.DDRC` (R125). -/
def execRdDdrc (s : State) : Outcome :=
  whenRunning s (.next (s.respond (.data (s.port .c).direction)))

/-- `WR.DDRC` (R126). -/
def execWrDdrc (data : Byte) (s : State) : Outcome :=
  whenRunning s (.next ((writeDirection .c data s).respond .done))

/-- `PEEK.DDRC` (R127). -/
def execPeekDdrc (s : State) : Outcome :=
  .next (s.respond (.data (s.port .c).direction))

/-- `PIN` (R128): new levels on the pins of a port, noticed by nothing until the next sample. -/
def execPin (idx : PortId) (v : Byte) (s : State) : Outcome :=
  whenRunning s (.next ((s.setPort idx { s.port idx with pinIn := v }).respond .done))

/-- `CFGMASK` (R129): sets a physical mask before START, and is `Fatal(1)` afterwards (R271). -/
def execCfgmask (idx : PortId) (v : Byte) (s : State) : Outcome :=
  match s.phase with
  | .config => .next ((s.setPort idx { s.port idx with physicalMask := v }).respond .done)
  | .started => .fault .configOrder
  | .running => .fault .configOrder

/-- `START` (R130): freezes the configuration; refused a second time. -/
def execStart (s : State) : Outcome :=
  match s.phase with
  | .config => .next ({ s with phase := .started }.respond .done)
  | .started => .refused (.operation .alreadyStarted)
  | .running => .refused (.operation .alreadyStarted)

end Sys2Proof.Machine
end

