-- ==== Sys2Proof/Machine/System.lean ====
section
/-! DEFINITION. The whole-block operations: BURN, EXPORT and the offsets the block does not own (44_system.md), and RESET
(70_reset_and_hazards.md). -/

namespace Sys2Proof.Machine

/-- `RD.UNMAPPED` (R255): any byte. -/
def execRdUnmapped (_off : BitVec 5) (s : State) : Outcome :=
  whenRunning s (.next s.readFree)

/-- `WR.UNMAPPED` (R256): no state change. -/
def execWrUnmapped (_off : BitVec 5) (_data : Byte) (s : State) : Outcome :=
  whenRunning s (.next (s.respond .done))

/-- `PEEK.UNMAPPED` (R257): any byte. -/
def execPeekUnmapped (_off : BitVec 5) (s : State) : Outcome :=
  .next s.readFree

/-- `BURN` (R252). -/
def execBurn (n : Half) (s : State) : Outcome :=
  whenRunning s (.next ((burnAll n.toNat s).respond .done))

/-- `EXPORT` (R253): legal in every phase. -/
def execExportState (s : State) : Outcome :=
  .next (s.respond (.values (exportItems s)))

/-- `RESET` (R302): refused in CONFIG. -/
def execReset (fuse : Bool) (s : State) : Outcome :=
  match s.phase with
  | .config => .refused (.operation .notStarted)
  | .started => .next ((deviceReset fuse s).respond .done)
  | .running => .next ((deviceReset fuse s).respond .done)

end Sys2Proof.Machine
end

