-- ==== Sys2Proof/Machine/Timer.lean ====
section
/-! DEFINITION. The Timer/Counter Engine operations (41_timer.md): RD, WR, PEEK of TCR, TSR, ICRH, ICRL, OCRH, OCRL, TRH, TRL, ATRH,
ATRL; TCAP. The timer's part of BURN is `timerBurn` in Ops.lean. -/

namespace Sys2Proof.Machine

/-- `RD.TCR` (R153). -/
def execRdTcr (s : State) : Outcome :=
  whenRunning s (.next (s.respond (.data s.timer.tcr)))

/-- `WR.TCR` (R154). -/
def execWrTcr (data : Byte) (s : State) : Outcome :=
  whenRunning s (.next (((s.setTimer { s.timer with tcr := data &&& tcrValid }).recomputeTimerPending).respond .done))

/-- `PEEK.TCR` (R155). -/
def execPeekTcr (s : State) : Outcome :=
  .next (s.respond (.data s.timer.tcr))

/-- `RD.TSR` (R156): the set flags become seen. -/
def execRdTsr (s : State) : Outcome :=
  whenRunning s
    (.next ((s.setTimer { s.timer with statusSeen := s.timer.statusSeen ||| s.timer.tsr }).respond (.data s.timer.tsr)))

/-- `WR.TSR` (R157): absorbed. -/
def execWrTsr (_data : Byte) (s : State) : Outcome :=
  whenRunning s (.next (s.respond .done))

/-- `PEEK.TSR` (R158): nothing becomes seen. -/
def execPeekTsr (s : State) : Outcome :=
  .next (s.respond (.data s.timer.tsr))

/-- `RD.ICRH` (R159): captures are inhibited until the low byte is read. -/
def execRdIcrh (s : State) : Outcome :=
  whenRunning s
    (.next ((s.setTimer { s.timer with captureInhibited := true }).respond (.data (hiByte s.timer.inputCaptureReg))))

/-- `RD.ICRL` (R160): ends the inhibit; clears ICF if seen. -/
def execRdIcrl (s : State) : Outcome :=
  whenRunning s
    (.next (((s.setTimer { s.timer with captureInhibited := false }).clearIfSeen .icf).respond
      (.data (loByte s.timer.inputCaptureReg))))

/-- `WR.ICRH` (R161): absorbed. -/
def execWrIcrh (_data : Byte) (s : State) : Outcome :=
  whenRunning s (.next (s.respond .done))

/-- `WR.ICRL` (R162): absorbed. -/
def execWrIcrl (_data : Byte) (s : State) : Outcome :=
  whenRunning s (.next (s.respond .done))

/-- `PEEK.ICRH` (R163). -/
def execPeekIcrh (s : State) : Outcome :=
  .next (s.respond (.data (hiByte s.timer.inputCaptureReg)))

/-- `PEEK.ICRL` (R164). -/
def execPeekIcrl (s : State) : Outcome :=
  .next (s.respond (.data (loByte s.timer.inputCaptureReg)))

/-- `RD.OCRH` (R165). -/
def execRdOcrh (s : State) : Outcome :=
  whenRunning s (.next (s.respond (.data (hiByte s.timer.outputCompareReg))))

/-- `RD.OCRL` (R166). -/
def execRdOcrl (s : State) : Outcome :=
  whenRunning s (.next (s.respond (.data (loByte s.timer.outputCompareReg))))

/-- `WR.OCRH` (R167): the high byte goes into the register; the compare output is inhibited. -/
def execWrOcrh (data : Byte) (s : State) : Outcome :=
  whenRunning s
    (.next ((s.setTimer
      { s.timer with
        outputCompareReg := joinBytes data (loByte s.timer.outputCompareReg)
        compareInhibited := true }).respond .done))

/-- `WR.OCRL` (R168): the low byte goes into the register, the inhibit ends; clears OCF if seen. -/
def execWrOcrl (data : Byte) (s : State) : Outcome :=
  whenRunning s
    (.next (((s.setTimer
      { s.timer with
        outputCompareReg := joinBytes (hiByte s.timer.outputCompareReg) data
        compareInhibited := false }).clearIfSeen .ocf).respond .done))

/-- `PEEK.OCRH` (R169). -/
def execPeekOcrh (s : State) : Outcome :=
  .next (s.respond (.data (hiByte s.timer.outputCompareReg)))

/-- `PEEK.OCRL` (R170). -/
def execPeekOcrl (s : State) : Outcome :=
  .next (s.respond (.data (loByte s.timer.outputCompareReg)))

/-- `RD.TRH` (R171): latches the low byte for TR. -/
def execRdTrh (s : State) : Outcome :=
  whenRunning s
    (.next ((s.setTimer { s.timer with trLatch := ⟨loByte s.timer.counter, true⟩ }).respond
      (.data (hiByte s.timer.counter))))

/-- `RD.TRL` (R172): ends the TR sequence; clears TOF if seen. -/
def execRdTrl (s : State) : Outcome :=
  whenRunning s
    (.next (((s.setTimer { s.timer with trLatch := { s.timer.trLatch with latched := false } }).clearIfSeen .tof).respond
      (.data (readoutLow s.timer.trLatch s.timer.counter))))

/-- `RD.ATRH` (R173): latches the low byte for ATR. -/
def execRdAtrh (s : State) : Outcome :=
  whenRunning s
    (.next ((s.setTimer { s.timer with atrLatch := ⟨loByte s.timer.counter, true⟩ }).respond
      (.data (hiByte s.timer.counter))))

/-- `RD.ATRL` (R174): ends the ATR sequence; never touches TOF. -/
def execRdAtrl (s : State) : Outcome :=
  whenRunning s
    (.next ((s.setTimer { s.timer with atrLatch := { s.timer.atrLatch with latched := false } }).respond
      (.data (readoutLow s.timer.atrLatch s.timer.counter))))

/-- `WR.TRH` (R175): absorbed. -/
def execWrTrh (_data : Byte) (s : State) : Outcome :=
  whenRunning s (.next (s.respond .done))

/-- `WR.TRL` (R175): absorbed. -/
def execWrTrl (_data : Byte) (s : State) : Outcome :=
  whenRunning s (.next (s.respond .done))

/-- `WR.ATRH` (R175): absorbed. -/
def execWrAtrh (_data : Byte) (s : State) : Outcome :=
  whenRunning s (.next (s.respond .done))

/-- `WR.ATRL` (R175): absorbed. -/
def execWrAtrl (_data : Byte) (s : State) : Outcome :=
  whenRunning s (.next (s.respond .done))

/-- `PEEK.TRH` (R176). -/
def execPeekTrh (s : State) : Outcome :=
  .next (s.respond (.data (hiByte s.timer.counter)))

/-- `PEEK.TRL` (R177). -/
def execPeekTrl (s : State) : Outcome :=
  .next (s.respond (.data (readoutLow s.timer.trLatch s.timer.counter)))

/-- `PEEK.ATRH` (R178). -/
def execPeekAtrh (s : State) : Outcome :=
  .next (s.respond (.data (hiByte s.timer.counter)))

/-- `PEEK.ATRL` (R179). -/
def execPeekAtrl (s : State) : Outcome :=
  .next (s.respond (.data (readoutLow s.timer.atrLatch s.timer.counter)))

/-- The capture of R181: the counter is latched and ICF set. -/
def capture (s : State) : State :=
  ((s.setTimer { s.timer with inputCaptureReg := s.timer.counter }).setFlag .icf).recomputeTimerPending

/-- `TCAP` (R181): captures iff the edge matches IEDG and captures are not inhibited. -/
def execTcap (rising : Bool) (s : State) : Outcome :=
  whenRunning s
    (.next ((if rising = s.timer.tcr.getLsbD 1 ∧ s.timer.captureInhibited = false then capture s else s).respond .done))

end Sys2Proof.Machine
end

