-- ==== Sys2Proof/Machine/Watchdog.lean ====
section
/-! DEFINITION. The Watchdog Engine operations (42_watchdog.md): RD, WR, PEEK of COPRST and COPCR; WRCOPR. On a variant without the
programmable COP the six register operations are accesses to an unlisted offset (R200, 20_memory.md R63). The watchdogs'
parts of BURN are `pcopBurn` and `ncopBurn` in Ops.lean. -/

namespace Sys2Proof.Machine

/-- `RD.COPRST` (R201): any byte; the sequence is not disturbed. -/
def execRdCoprst (s : State) : Outcome :=
  whenRunning s (.next s.readFree)

/-- The two-step disarm sequence (R202). -/
def disarmWrite (clear : BitVec 21) (data : Byte) (p : Pcop) : Pcop :=
  if data = 0x55#8 then { p with disarmStage := 1 }
  else if data = 0xAA#8 ∧ p.disarmStage = 1#8 then { p with counter := p.counter &&& ~~~clear, disarmStage := 0 }
  else { p with disarmStage := 0 }

/-- `WR.COPRST` (R202). -/
def execWrCoprst (data : Byte) (s : State) : Outcome :=
  whenRunning s
    (.next ((if s.cfg.hasPcop then s.setPcop (disarmWrite s.cfg.pcopDisarmClear data s.pcop) else s).respond .done))

/-- `PEEK.COPRST` (R203): any byte. -/
def execPeekCoprst (s : State) : Outcome :=
  .next s.readFree

/-- `RD.COPCR` (R204): the value, then COPF is cleared. -/
def execRdCopcr (s : State) : Outcome :=
  whenRunning s
    (.next (if s.cfg.hasPcop then
      (s.setPcop { s.pcop with copcr := s.pcop.copcr &&& ~~~copfMask }).respond (.data s.pcop.copcr) else s.readFree))

/-- The control write (R205): ignored whole if it would clear PCOPE; COPF is never written. -/
def controlWrite (data copcr : Byte) : Byte :=
  if copcr.getLsbD 2 = true ∧ data.getLsbD 2 = false then copcr
  else (copcr &&& copfMask) ||| (copcr &&& pcopeMask) ||| (data &&& copcrWritable)

/-- `WR.COPCR` (R205). -/
def execWrCopcr (data : Byte) (s : State) : Outcome :=
  whenRunning s
    (.next ((if s.cfg.hasPcop then s.setPcop { s.pcop with copcr := controlWrite data s.pcop.copcr } else s).respond .done))

/-- `PEEK.COPCR` (R206): COPF is not cleared. -/
def execPeekCopcr (s : State) : Outcome :=
  .next (if s.cfg.hasPcop then s.respond (.data s.pcop.copcr) else s.readFree)

/-- `WRCOPR` (R220, R221): a clear bit written as 0 clears the NCOP counter. -/
def execWrcopr (data : Byte) (s : State) : Outcome :=
  whenRunning s
    (.next ((if s.cfg.hasNcop = true ∧ data.getLsbD s.cfg.ncopClrBit.val = false then
      s.setNcop { s.ncop with counter := 0 } else s).respond .done))

end Sys2Proof.Machine
end

