-- ==== Sys2Proof/Machine/Dispatch.lean ====
section
/-! DEFINITION. One arm per operation: each is one call of its meaning. -/

namespace Sys2Proof.Machine

/-- The outcome of an operation (00_scope.md R15). -/
def exec (i : Instr) (s : State) : Host.Outcome State Fault Refusal :=
  match i with
  | .rdPorta => Sys2Proof.Machine.execRdPorta s
  | .wrPorta data => Sys2Proof.Machine.execWrPorta data s
  | .peekPorta => Sys2Proof.Machine.execPeekPorta s
  | .rdPortb => Sys2Proof.Machine.execRdPortb s
  | .wrPortb data => Sys2Proof.Machine.execWrPortb data s
  | .peekPortb => Sys2Proof.Machine.execPeekPortb s
  | .rdPortc => Sys2Proof.Machine.execRdPortc s
  | .wrPortc data => Sys2Proof.Machine.execWrPortc data s
  | .peekPortc => Sys2Proof.Machine.execPeekPortc s
  | .rdPortd => Sys2Proof.Machine.execRdPortd s
  | .wrPortd data => Sys2Proof.Machine.execWrPortd data s
  | .peekPortd => Sys2Proof.Machine.execPeekPortd s
  | .rdDdra => Sys2Proof.Machine.execRdDdra s
  | .wrDdra data => Sys2Proof.Machine.execWrDdra data s
  | .peekDdra => Sys2Proof.Machine.execPeekDdra s
  | .rdDdrb => Sys2Proof.Machine.execRdDdrb s
  | .wrDdrb data => Sys2Proof.Machine.execWrDdrb data s
  | .peekDdrb => Sys2Proof.Machine.execPeekDdrb s
  | .rdDdrc => Sys2Proof.Machine.execRdDdrc s
  | .wrDdrc data => Sys2Proof.Machine.execWrDdrc data s
  | .peekDdrc => Sys2Proof.Machine.execPeekDdrc s
  | .rdTcr => Sys2Proof.Machine.execRdTcr s
  | .wrTcr data => Sys2Proof.Machine.execWrTcr data s
  | .peekTcr => Sys2Proof.Machine.execPeekTcr s
  | .rdTsr => Sys2Proof.Machine.execRdTsr s
  | .wrTsr data => Sys2Proof.Machine.execWrTsr data s
  | .peekTsr => Sys2Proof.Machine.execPeekTsr s
  | .rdIcrh => Sys2Proof.Machine.execRdIcrh s
  | .wrIcrh data => Sys2Proof.Machine.execWrIcrh data s
  | .peekIcrh => Sys2Proof.Machine.execPeekIcrh s
  | .rdIcrl => Sys2Proof.Machine.execRdIcrl s
  | .wrIcrl data => Sys2Proof.Machine.execWrIcrl data s
  | .peekIcrl => Sys2Proof.Machine.execPeekIcrl s
  | .rdOcrh => Sys2Proof.Machine.execRdOcrh s
  | .wrOcrh data => Sys2Proof.Machine.execWrOcrh data s
  | .peekOcrh => Sys2Proof.Machine.execPeekOcrh s
  | .rdOcrl => Sys2Proof.Machine.execRdOcrl s
  | .wrOcrl data => Sys2Proof.Machine.execWrOcrl data s
  | .peekOcrl => Sys2Proof.Machine.execPeekOcrl s
  | .rdTrh => Sys2Proof.Machine.execRdTrh s
  | .wrTrh data => Sys2Proof.Machine.execWrTrh data s
  | .peekTrh => Sys2Proof.Machine.execPeekTrh s
  | .rdTrl => Sys2Proof.Machine.execRdTrl s
  | .wrTrl data => Sys2Proof.Machine.execWrTrl data s
  | .peekTrl => Sys2Proof.Machine.execPeekTrl s
  | .rdAtrh => Sys2Proof.Machine.execRdAtrh s
  | .wrAtrh data => Sys2Proof.Machine.execWrAtrh data s
  | .peekAtrh => Sys2Proof.Machine.execPeekAtrh s
  | .rdAtrl => Sys2Proof.Machine.execRdAtrl s
  | .wrAtrl data => Sys2Proof.Machine.execWrAtrl data s
  | .peekAtrl => Sys2Proof.Machine.execPeekAtrl s
  | .rdCoprst => Sys2Proof.Machine.execRdCoprst s
  | .wrCoprst data => Sys2Proof.Machine.execWrCoprst data s
  | .peekCoprst => Sys2Proof.Machine.execPeekCoprst s
  | .rdCopcr => Sys2Proof.Machine.execRdCopcr s
  | .wrCopcr data => Sys2Proof.Machine.execWrCopcr data s
  | .peekCopcr => Sys2Proof.Machine.execPeekCopcr s
  | .rdUnmapped off => Sys2Proof.Machine.execRdUnmapped off s
  | .wrUnmapped off data => Sys2Proof.Machine.execWrUnmapped off data s
  | .peekUnmapped off => Sys2Proof.Machine.execPeekUnmapped off s
  | .burn n => Sys2Proof.Machine.execBurn n s
  | .tcap rising => Sys2Proof.Machine.execTcap rising s
  | .irq line => Sys2Proof.Machine.execIrq line s
  | .reset fuse => Sys2Proof.Machine.execReset fuse s
  | .service => Sys2Proof.Machine.execService s
  | .pin idx v => Sys2Proof.Machine.execPin idx v s
  | .wrcopr data => Sys2Proof.Machine.execWrcopr data s
  | .cfgmask idx v => Sys2Proof.Machine.execCfgmask idx v s
  | .start => Sys2Proof.Machine.execStart s
  | .exportState => Sys2Proof.Machine.execExportState s

end Sys2Proof.Machine
end

