-- ==== Sys2Proof/Machine/Run.lean ====
section
/-! DEFINITION. How the block comes to an operation (30_encoding.md R108): the host applies operation words in order; a word
is decoded (R107) and run, and a refused one is passed over with the state unchanged (44_system.md R259). -/

namespace Sys2Proof.Machine

/-- R259 (DEDUCED, log entry 9): a refusal leaves the model usable. The host is told, and the next operation meets the unchanged state `s`; a
fatal outcome has no next state. -/
def settle (s : State) (o : Outcome) : Outcome :=
  match o with
  | .refused (.operation why) => .next (s.respond (.refused why))
  | .refused r => .refused r
  | .fault r => .fault r
  | .next t => .next t

/-- One operation word applied (R107, R258). -/
def applyWord (w : OpWord) (s : State) : Outcome :=
  match decode s.cfg w with
  | .error why => settle s (.refused (.operation (.invalidWord why)))
  | .ok i => settle s (exec i s)

/-- No operation waits: nothing changes (10_state.md R20; log entry 6). -/
def idle (s : State) : Outcome := .next s

/-- The words the host will apply after the word `w` is put in front of them. -/
def pushWord (w : OpWord) (s : State) : State := { s with ops := w :: s.ops }

end Sys2Proof.Machine
end

