-- ==== Sys2Proof/Machine/Step.lean ====
section
/-! DEFINITION. One step: the next operation word the host applies is taken and applied. -/

namespace Sys2Proof.Machine

/-- One step of the block: one operation (R20, R108). -/
def step (s : State) : Host.Outcome State Fault Refusal :=
  match s.ops with
  | [] => idle s
  | w :: rest => applyWord w { s with ops := rest }

/-- The state with one more operation word, before all others: the one the next step takes. -/
def State.withFetchWord (s : State) (nbits w : Nat) : State := pushWord (tableWord nbits w) s

end Sys2Proof.Machine
end

