-- ==== Sys2Proof/Safety.lean ====
section
/-! DEFINITION. The terms statements are made of: the state in which run-time operations are applied, the classes of
operations of 44_system.md R258, the invariants of 10_state.md, and runs of several operations. -/

namespace Sys2Proof

/-- PEEK of any offset and EXPORT: legal in every phase (R258). -/
def Instr.inspection : Instr → Bool
  | .peekPorta | .peekPortb | .peekPortc | .peekPortd | .peekDdra | .peekDdrb | .peekDdrc | .peekTcr | .peekTsr
  | .peekIcrh | .peekIcrl | .peekOcrh | .peekOcrl | .peekTrh | .peekTrl | .peekAtrh | .peekAtrl | .peekCoprst
  | .peekCopcr | .peekUnmapped _ | .exportState => true
  | .rdPorta | .wrPorta _ | .rdPortb | .wrPortb _ | .rdPortc | .wrPortc _ | .rdPortd | .wrPortd _ | .rdDdra
  | .wrDdra _ | .rdDdrb | .wrDdrb _ | .rdDdrc | .wrDdrc _ | .rdTcr | .wrTcr _ | .rdTsr | .wrTsr _ | .rdIcrh
  | .wrIcrh _ | .rdIcrl | .wrIcrl _ | .rdOcrh | .wrOcrh _ | .rdOcrl | .wrOcrl _ | .rdTrh | .wrTrh _ | .rdTrl
  | .wrTrl _ | .rdAtrh | .wrAtrh _ | .rdAtrl | .wrAtrl _ | .rdCoprst | .wrCoprst _ | .rdCopcr | .wrCopcr _
  | .rdUnmapped _ | .wrUnmapped _ _ | .burn _ | .tcap _ | .irq _ | .reset _ | .service | .pin _ _ | .wrcopr _
  | .cfgmask _ _ | .start => false

/-- CFGMASK, START and RESET: the operations of the lifecycle, each with a row of its own in R258. -/
def Instr.lifecycle : Instr → Bool
  | .cfgmask _ _ | .start | .reset _ => true
  | .rdPorta | .wrPorta _ | .peekPorta | .rdPortb | .wrPortb _ | .peekPortb | .rdPortc | .wrPortc _
  | .peekPortc | .rdPortd | .wrPortd _ | .peekPortd | .rdDdra | .wrDdra _ | .peekDdra | .rdDdrb | .wrDdrb _
  | .peekDdrb | .rdDdrc | .wrDdrc _ | .peekDdrc | .rdTcr | .wrTcr _ | .peekTcr | .rdTsr | .wrTsr _ | .peekTsr
  | .rdIcrh | .wrIcrh _ | .peekIcrh | .rdIcrl | .wrIcrl _ | .peekIcrl | .rdOcrh | .wrOcrh _ | .peekOcrh
  | .rdOcrl | .wrOcrl _ | .peekOcrl | .rdTrh | .wrTrh _ | .peekTrh | .rdTrl | .wrTrl _ | .peekTrl | .rdAtrh
  | .wrAtrh _ | .peekAtrh | .rdAtrl | .wrAtrl _ | .peekAtrl | .rdCoprst | .wrCoprst _ | .peekCoprst | .rdCopcr
  | .wrCopcr _ | .peekCopcr | .rdUnmapped _ | .wrUnmapped _ _ | .peekUnmapped _ | .burn _ | .tcap _ | .irq _
  | .service | .pin _ _ | .wrcopr _ | .exportState => false

/-- RD, WR, WRCOPR, BURN, TCAP, IRQ, SERVICE, PIN: the run-time operations (R258). -/
def Instr.runTime (i : Instr) : Bool := !i.inspection && !i.lifecycle

/-- `RD.PORTi` for i = A to D. -/
def rdPort : PortId → Instr
  | .a => .rdPorta
  | .b => .rdPortb
  | .c => .rdPortc
  | .d => .rdPortd

/-- `WR.PORTi` for i = A to D. -/
def wrPort : PortId → Byte → Instr
  | .a => .wrPorta
  | .b => .wrPortb
  | .c => .wrPortc
  | .d => .wrPortd

/-- `PEEK.PORTi` for i = A to D. -/
def peekPort : PortId → Instr
  | .a => .peekPorta
  | .b => .peekPortb
  | .c => .peekPortc
  | .d => .peekPortd

/-- The ports that have a direction register on the bus (40_port.md R131), with its `RD`, `WR` and `PEEK`. -/
def ddrOps : List (PortId × Instr × (Byte → Instr) × Instr) :=
  [(.a, .rdDdra, .wrDdra, .peekDdra), (.b, .rdDdrb, .wrDdrb, .peekDdrb), (.c, .rdDdrc, .wrDdrc, .peekDdrc)]

/-- The mapped registers other than the ports whose read value the block defines, as (`RD`, `PEEK`). -/
def readInspectPairs : List (Instr × Instr) :=
  [(.rdDdra, .peekDdra), (.rdDdrb, .peekDdrb), (.rdDdrc, .peekDdrc), (.rdTcr, .peekTcr), (.rdTsr, .peekTsr),
    (.rdIcrh, .peekIcrh), (.rdIcrl, .peekIcrl), (.rdOcrh, .peekOcrh), (.rdOcrl, .peekOcrl), (.rdTrh, .peekTrh),
    (.rdTrl, .peekTrl), (.rdAtrh, .peekAtrh), (.rdAtrl, .peekAtrl)]

namespace Machine

/-- Run-time operations are applied: RUNNING with no reset request outstanding (R258). -/
abbrev State.Running (s : State) : Prop := s.phase = .running ∧ s.resetPending = false

/-- An output-compare match of a burn of n cycles (41_timer.md R180 step 7), `post` not truncated. -/
abbrev Timer.compareHit (t : Timer) (n : Nat) : Prop :=
  t.counter.toNat < t.outputCompareReg.toNat ∧
    t.outputCompareReg.toNat ≤ t.counter.toNat + (t.prescaler.toNat + n) / 16

/-- A counter wrap in a burn of n cycles (R180 step 6). -/
abbrev Timer.wraps (t : Timer) (n : Nat) : Prop := 0x10000 ≤ t.counter.toNat + (t.prescaler.toNat + n) / 16

/-- The compare-output events of a trace, in order. -/
def tcmpEvents (l : List Event) : List Event :=
  l.filter fun e => match e with
    | .tcmp _ => true
    | _ => false

/-- The port notifications of a trace, in order. -/
def portEvents (l : List Event) : List Event :=
  l.filter fun e => match e with
    | .portOut _ _ _ => true
    | _ => false

/-- The invariants the spec states of the block's elements. -/
structure Inv (s : State) : Prop where
  /-- R22: an absent bit is never an output. -/
  direction_masked : ∀ i, (s.port i).direction &&& ~~~(s.port i).physicalMask = 0#8
  /-- R22, R131, by decision D3: port D is input-only. -/
  portD_input : (s.port .d).direction = 0#8
  /-- R52, by decisions D26 and D27: before the first reset every bit is an input. -/
  inputs_before_boot : s.phase ≠ .running → ∀ i, (s.port i).direction = 0#8
  /-- R31, the positions by decision D4: the reserved bits of `tcr` read 0. -/
  tcr_valid : s.timer.tcr &&& ~~~0xE3#8 = 0#8
  /-- R32, the positions by decision D4: the reserved bits of `tsr` read 0. -/
  tsr_valid : s.timer.tsr &&& ~~~0xE0#8 = 0#8
  /-- R33, by decision D6: only a set flag has been seen. -/
  seen_set : s.timer.statusSeen &&& ~~~s.timer.tsr = 0#8
  /-- R40, the positions by decision D17: the reserved bits of `copcr` read 0. -/
  copcr_valid : s.pcop.copcr &&& ~~~0x17#8 = 0#8
  /-- R39, by decision D21: the legal values of `disarm_stage`. -/
  stage_legal : s.pcop.disarmStage = 0#8 ∨ s.pcop.disarmStage = 1#8
  /-- R231, the layout by decision D14: no unknown source is pending. -/
  pending_known : s.pending &&& ~~~knownMask s.cfg = 0#8
  /-- R240 (a): the timer's pending bit is a function of the timer's registers. -/
  timer_bit : s.pending.getLsbD s.cfg.nExt.val = decide (s.timer.tcr &&& s.timer.tsr &&& 0xE0#8 ≠ 0#8)
  /-- R44, R258, by decision D24: a reset request is outstanding only in RUNNING. -/
  request_running : s.resetPending = true → s.phase = .running

/-- A notification reports no absent bit (40_port.md R133 (b)). -/
def Event.masked (s : State) : Event → Prop
  | .portOut i value dirmask =>
      value &&& ~~~(s.port i).physicalMask = 0#8 ∧ dirmask &&& ~~~(s.port i).physicalMask = 0#8
  | _ => True

/-- Every notification of the trace reports existing bits only, and none was sent while the masks could change. -/
structure NotificationsMasked (s : State) : Prop where
  masked : ∀ e ∈ s.trace, e.masked s
  none_in_config : s.phase = .config → portEvents s.trace = []

/-- Operations applied in order while each answers a next state (30_encoding.md R108). -/
def execAll : List Instr → State → Option State
  | [], s => some s
  | i :: is, s =>
    match exec i s with
    | .next t => execAll is t
    | _ => none

/-- One service interval of the programmable COP: burns, then the disarm sequence (R106 COPSVC). -/
def serviceInterval (burns : List Half) : List Instr :=
  burns.map Instr.burn ++ [.wrCoprst 0x55#8, .wrCoprst 0xAA#8]

/-- The cycles of a list of burns. -/
def cyclesTotal (burns : List Half) : Nat := (burns.map BitVec.toNat).sum

end Machine

end Sys2Proof
end

