-- ==== Sys2Proof/Certificates/Slice0/Obligations.lean ====
section
/-! DEFINITION. The statements about the model, for the provers. Each formalises the rule named in its docstring. -/

open Sys2Proof Sys2Proof.Machine

/-! ### Operation words -/

/-- Decoding the word of a well-formed operation gives the operation back, on every variant (30_encoding.md R92 to R98,
R107): no operand bit is dropped. -/
def Obligations.DecodeOfEncode : Prop :=
  ∀ (cfg : Config) (i : Instr), i.wellFormed cfg = true → decode cfg (encode i) = .ok i

/-- A word that decodes is the word of the operation it decodes to, and that operation is well-formed on the variant: no
two words spell one operation (R93 to R98, R107). -/
def Obligations.EncodeOfDecode : Prop :=
  ∀ (cfg : Config) (w : OpWord) (i : Instr),
    decode cfg w = .ok i → encode i = w ∧ i.wellFormed cfg = true

/-- R102, the spec's own convention: a word spells no operation exactly when its kind is 0xD, 0xE or 0xF, a
must-be-zero bit of its format is 1, or it is an IRQ with `line >= N_EXT`. -/
def Obligations.InvalidWordsExactly : Prop :=
  ∀ (cfg : Config) (w : OpWord),
    (∃ why, decode cfg w = .error why) ↔
      (0xD#4 ≤ w.extractLsb' 20 4
        ∨ (w.extractLsb' 20 4 = 0x0#4 ∧ (w.extractLsb' 13 7 ≠ 0#7 ∨ w.extractLsb' 0 8 ≠ 0#8))
        ∨ (w.extractLsb' 20 4 = 0x1#4 ∧ w.extractLsb' 13 7 ≠ 0#7)
        ∨ (w.extractLsb' 20 4 = 0x2#4 ∧ (w.extractLsb' 13 7 ≠ 0#7 ∨ w.extractLsb' 0 8 ≠ 0#8))
        ∨ (w.extractLsb' 20 4 = 0x3#4 ∧ w.extractLsb' 16 4 ≠ 0#4)
        ∨ ((w.extractLsb' 20 4 = 0x4#4 ∨ w.extractLsb' 20 4 = 0x6#4) ∧ w.extractLsb' 1 19 ≠ 0#19)
        ∨ (w.extractLsb' 20 4 = 0x5#4 ∧
            (w.extractLsb' 11 9 ≠ 0#9 ∨ w.extractLsb' 0 8 ≠ 0#8 ∨ cfg.nExt.val ≤ (w.extractLsb' 8 3).toNat))
        ∨ ((w.extractLsb' 20 4 = 0x7#4 ∨ w.extractLsb' 20 4 = 0xB#4 ∨ w.extractLsb' 20 4 = 0xC#4) ∧
            w.extractLsb' 0 20 ≠ 0#20)
        ∨ ((w.extractLsb' 20 4 = 0x8#4 ∨ w.extractLsb' 20 4 = 0xA#4) ∧ w.extractLsb' 10 10 ≠ 0#10)
        ∨ (w.extractLsb' 20 4 = 0x9#4 ∧ w.extractLsb' 8 12 ≠ 0#12))

/-- Words written out from the encodings of R93 to R98 decode to the operations they stand for; on a variant without the
programmable COP the offset 0x1D is unlisted (R107). -/
def Obligations.SampleWordsDecode : Prop :=
  (∀ cfg : Config,
    decode cfg 0x001300#24 = .ok .rdTsr ∧ decode cfg 0x1012E3#24 = .ok (.wrTcr 0xE3#8)
      ∧ decode cfg 0x200100#24 = .ok .peekPortb ∧ decode cfg 0x300010#24 = .ok (.burn 16#16)
      ∧ decode cfg 0x400001#24 = .ok (.tcap true) ∧ decode cfg 0x600001#24 = .ok (.reset true)
      ∧ decode cfg 0x700000#24 = .ok .service ∧ decode cfg 0x8003FF#24 = .ok (.pin .d 0xFF#8)
      ∧ decode cfg 0x9000FE#24 = .ok (.wrcopr 0xFE#8) ∧ decode cfg 0xA003BF#24 = .ok (.cfgmask .d 0xBF#8)
      ∧ decode cfg 0xB00000#24 = .ok .start ∧ decode cfg 0xC00000#24 = .ok .exportState
      ∧ decode cfg 0x1007FF#24 = .ok (.wrUnmapped 0x07#5 0xFF#8))
    ∧ (∀ cfg : Config, cfg.hasPcop = true → decode cfg 0x101D55#24 = .ok (.wrCoprst 0x55#8))
    ∧ (∀ cfg : Config, cfg.hasPcop = false → decode cfg 0x101D55#24 = .ok (.wrUnmapped 0x1D#5 0x55#8))
    ∧ (∀ cfg : Config, 1 < cfg.nExt → decode cfg 0x500100#24 = .ok (.irq 1))

/-! ### The step -/

/-- When the next operation word decodes to `i`, a step is `exec i` at the state without that word. A refused operation
leaves the model usable with the state unchanged (44_system.md R259); that a step then answers a next state, with the word
taken and the refusal recorded as a response, is the model's reading of it (DEDUCED, log entry 9). -/
def Obligations.StepRunsDecodedOperation : Prop :=
  ∀ (s : State) (w : OpWord) (rest : List OpWord) (i : Instr),
    s.ops = w :: rest → decode s.cfg w = .ok i →
      (∀ t, exec i { s with ops := rest } = .next t → step s = .next t)
      ∧ (∀ r, exec i { s with ops := rest } = .fault r → step s = .fault r)
      ∧ (∀ why, exec i { s with ops := rest } = .refused (.operation why) →
          step s = .next { s with ops := rest, results := s.results ++ [.refused why] })

/-- A word that spells no operation is refused with the state unchanged (R102, R258, R259), the refusal being a next state
with its response recorded (DEDUCED, log entry 9); with no word waiting a step changes nothing (the model's choice, log
entry 6). -/
def Obligations.StepPassesInvalidWords : Prop :=
  (∀ (s : State) (w : OpWord) (rest : List OpWord) (why : Reject),
    s.ops = w :: rest → decode s.cfg w = .error why →
      step s = .next { s with ops := rest, results := s.results ++ [.refused (.invalidWord why)] })
    ∧ (∀ s : State, s.ops = [] → step s = .next s)

/-! ### Lifecycle -/

/-- The table of R258 for well-formed operations: inspection is applied in every phase; a run-time operation outside
RUNNING, or with a reset request outstanding, is refused, and otherwise is applied (SERVICE may be fatal); START is
applied in CONFIG only, RESET everywhere else; CFGMASK is applied in CONFIG and fatal elsewhere. -/
def Obligations.LegalityByPhase : Prop :=
  ∀ (i : Instr) (s : State), i.wellFormed s.cfg = true →
    (i.inspection = true → ∃ t, exec i s = .next t)
    ∧ (i.runTime = true → s.phase ≠ .running → exec i s = .refused (.operation .beforeBoot))
    ∧ (i.runTime = true → s.phase = .running → s.resetPending = true →
        exec i s = .refused (.operation .resetOutstanding))
    ∧ (i.runTime = true → s.Running →
        (∃ t, exec i s = .next t) ∨ (i = .service ∧ exec i s = .fault .arbiterInvariant))
    ∧ (i = .start → if s.phase = .config then ∃ t, exec i s = .next t
        else exec i s = .refused (.operation .alreadyStarted))
    ∧ (∀ fuse, i = .reset fuse → if s.phase = .config then exec i s = .refused (.operation .notStarted)
        else ∃ t, exec i s = .next t)
    ∧ (∀ idx v, i = .cfgmask idx v → if s.phase = .config then ∃ t, exec i s = .next t
        else exec i s = .fault .configOrder)

/-- R271: `Fatal(1)` is raised by CFGMASK in STARTED or RUNNING, and by nothing else. -/
def Obligations.ConfigOrderFaultExactly : Prop :=
  ∀ (i : Instr) (s : State),
    exec i s = .fault .configOrder ↔
      (∃ idx v, i = .cfgmask idx v) ∧ (s.phase = .started ∨ s.phase = .running)

/-- `Fatal(2)` is raised by SERVICE with no known pending bit, and by nothing else, when PRIORITY orders the known sources
(60_exceptions.md R272, 43_arbiter.md R238; the empty mask is the spec's decision D32). -/
def Obligations.ArbiterFaultExactly : Prop :=
  ∀ (i : Instr) (s : State), s.cfg.WellFormed →
    (exec i s = .fault .arbiterInvariant ↔ i = .service ∧ s.Running ∧ s.pending &&& knownMask s.cfg = 0#8)

/-- R129: CFGMASK in CONFIG sets the mask of its port and nothing else (the other ports keep theirs), whatever the mask
was; afterwards it is `Fatal(1)`, whatever the value is. A port with the mask 0 is empty: it reads 0 and latches nothing. -/
def Obligations.CfgmaskSetsPhysicalMask : Prop :=
  ∀ (s : State) (idx : PortId) (v : Byte),
    (s.phase = .config →
      exec (.cfgmask idx v) s =
        .next { s with
          ports := s.ports.set idx { s.port idx with physicalMask := v }
          results := s.results ++ [.done] })
    ∧ (s.phase ≠ .config → exec (.cfgmask idx v) s = .fault .configOrder)
    ∧ ((s.port idx).physicalMask = 0#8 → s.Running →
        (∃ t, exec (rdPort idx) s = .next t ∧ t.results = s.results ++ [.data 0#8])
          ∧ ∃ t, exec (wrPort idx v) s = .next t ∧ (t.port idx).outputLatch = 0#8)

/-- The boot (40_port.md R130, 70_reset_and_hazards.md R301, R302, R307, with the phases of decision D27 and the values of
R52, decisions D25 and D26): START in CONFIG moves the phase and changes nothing else; from power-on, START then RESET
changes nothing but the phase and the sampled enable of the non-programmable COP, for every value of every parameter. -/
def Obligations.StartAndBoot : Prop :=
  (∀ s : State, s.phase = .config →
    exec .start s = .next { s with phase := .started, results := s.results ++ [.done] })
  ∧ ∀ (cfg : Config) (p : PowerOn) (fuse : Bool), ∃ t,
    exec .start (State.powerOn cfg p) = .next t ∧
      exec (.reset fuse) t =
        .next { State.powerOn cfg p with
          phase := .running
          ncop := { counter := 0#17, enabled := cfg.hasNcop && fuse }
          results := [.done, .done] }

/-- What `State.reset` holds: each element that the device-reset column of R52 gives a value (decision D25), `tcr` but for
IEDG and `copcr` but for COPF, which that column leaves; and of what it leaves, the masks, `tsr`, COPF and the trace at
their power-on values (decision D26). COUNTER_INIT is the parameter of log entry 4; the fuse bit and the full masks are the
model's choice of log entry 7; the zeros of log entry 5 (latches, samples, capture and compare register, IEDG) are not
stated. -/
def Obligations.ResetStateValues : Prop :=
  (∀ i, (State.reset.port i).direction = 0#8 ∧ (State.reset.port i).physicalMask = 0xFF#8)
    ∧ State.reset.timer.counter = 0xFFFC#16 ∧ State.reset.timer.prescaler = 0#4
    ∧ State.reset.timer.tcr &&& ~~~0x02#8 = 0#8 ∧ State.reset.timer.tsr = 0#8 ∧ State.reset.timer.statusSeen = 0#8
    ∧ State.reset.timer.captureInhibited = false ∧ State.reset.timer.compareInhibited = false
    ∧ State.reset.timer.trLatch = ⟨0xFC#8, false⟩ ∧ State.reset.timer.atrLatch = ⟨0xFC#8, false⟩
    ∧ State.reset.pcop = { counter := 0#21, disarmStage := 0#8, copcr := 0#8 }
    ∧ State.reset.ncop = { counter := 0#17, enabled := false }
    ∧ State.reset.pending = 0#8 ∧ State.reset.resetPending = false
    ∧ State.reset.phase = .running ∧ State.reset.trace = []

/-- RESET outside CONFIG (R302; the values are those of R52, decision D25): what it writes, what it keeps, and that it
emits nothing and leaves no interrupt pending. -/
def Obligations.ResetEffect : Prop :=
  ∀ (s : State) (fuse : Bool), s.phase ≠ .config →
    exec (.reset fuse) s =
      .next { s with
        ports :=
          ⟨{ s.ports.a with direction := 0#8 }, { s.ports.b with direction := 0#8 },
           { s.ports.c with direction := 0#8 }, { s.ports.d with direction := 0#8 }⟩
        timer :=
          { s.timer with
            counter := s.cfg.counterInit
            prescaler := 0#4
            tcr := s.timer.tcr &&& 0x02#8
            statusSeen := 0#8
            captureInhibited := false
            compareInhibited := false
            trLatch := ⟨s.cfg.counterInit.extractLsb' 0 8, false⟩
            atrLatch := ⟨s.cfg.counterInit.extractLsb' 0 8, false⟩ }
        pcop := if s.cfg.hasPcop then
            { counter := 0#21, disarmStage := 0#8, copcr := s.pcop.copcr &&& 0x10#8 } else s.pcop
        ncop := if s.cfg.hasNcop then { counter := 0#17, enabled := fuse } else s.ncop
        pending := 0#8
        phase := .running
        resetPending := false
        results := s.results ++ [.done] }

/-- Two RESETs in a row: the second changes nothing the first did not (R302 corner case (e), on the values of decision
D25), and after it the block drives no pin (10_state.md R51, 70_reset_and_hazards.md R304). -/
def Obligations.ResetTwiceIsOnce : Prop :=
  ∀ (s t : State) (fuse : Bool), exec (.reset fuse) s = .next t →
    exec (.reset fuse) t = .next { t with results := t.results ++ [.done] }
      ∧ (∀ i b, pinDrive (t.port i) b = none) ∧ t.trace = s.trace

/-! ### Ports -/

/-- `PEEK.PORTi` (40_port.md R124): it returns the composed value of R121, which shows the latch on an output bit, the last
sample on an input bit and 0 on an absent bit; nothing else changes, in every phase (44_system.md R258). That it composes
over the last sample and does not sample the pins is decision D37 (log entry 20). -/
def Obligations.PeekPortComposes : Prop :=
  ∀ (i : PortId) (s : State), ∃ v : Byte,
    exec (peekPort i) s = .next { s with results := s.results ++ [.data v] }
      ∧ ∀ b < 8, v.getLsbD b =
          ((s.port i).physicalMask.getLsbD b &&
            (if (s.port i).direction.getLsbD b then (s.port i).outputLatch.getLsbD b
              else (s.port i).lastSampledInput.getLsbD b))

/-- `RD.PORTi` (40_port.md R122, with decisions D28 and D39): it returns the latch on output bits and the pin (the last
sample, where no input source is connected) on input bits, 0 on absent bits; only the last sample changes, and it is the
pins of the existing input bits. -/
def Obligations.RdPortSamplesPins : Prop :=
  ∀ (i : PortId) (s : State), s.Running → ∃ v smp : Byte,
    exec (rdPort i) s =
        .next { s with
          ports := s.ports.set i { s.port i with lastSampledInput := smp }
          results := s.results ++ [.data v] }
      ∧ (∀ b < 8, v.getLsbD b =
          ((s.port i).physicalMask.getLsbD b &&
            (if (s.port i).direction.getLsbD b then (s.port i).outputLatch.getLsbD b
              else if s.cfg.inConn.get i then (s.port i).pinIn.getLsbD b
              else (s.port i).lastSampledInput.getLsbD b)))
      ∧ (s.cfg.inConn.get i = false → smp = (s.port i).lastSampledInput)
      ∧ (s.cfg.inConn.get i = true → ∀ b < 8, smp.getLsbD b =
          ((s.port i).pinIn.getLsbD b && !(s.port i).direction.getLsbD b && (s.port i).physicalMask.getLsbD b))

/-- R123: `WR.PORTi` latches the masked value; iff a changed bit is an output it notifies with the composed value and the
direction; nothing else changes. -/
def Obligations.WrPortLatches : Prop :=
  ∀ (i : PortId) (data : Byte) (s : State), s.Running → ∃ t,
    exec (wrPort i data) s = .next t
      ∧ t = { s with
          ports := s.ports.set i { s.port i with outputLatch := data &&& (s.port i).physicalMask }
          trace := t.trace
          results := s.results ++ [.done] }
      ∧ ((∃ b < 8, ((data &&& (s.port i).physicalMask).getLsbD b ≠ (s.port i).outputLatch.getLsbD b
            ∧ (s.port i).direction.getLsbD b = true)) →
          t.trace = s.trace ++ [.portOut i (compose (t.port i)) (t.port i).direction])
      ∧ ((∀ b < 8, (s.port i).direction.getLsbD b = true →
            (data &&& (s.port i).physicalMask).getLsbD b = (s.port i).outputLatch.getLsbD b) →
          t.trace = s.trace)

/-- R125, R127: `RD.DDRi` and `PEEK.DDRi` return the direction and change nothing else. R126: `WR.DDRi` sets the masked
direction and notifies iff it changed, with the latch unchanged; nothing else changes. -/
def Obligations.DirectionRegisterAccess : Prop :=
  ∀ op ∈ ddrOps, ∀ s : State,
    (s.Running → exec op.2.1 s = .next { s with results := s.results ++ [.data (s.port op.1).direction] })
    ∧ exec op.2.2.2 s = .next { s with results := s.results ++ [.data (s.port op.1).direction] }
    ∧ (s.Running → ∀ data : Byte, ∃ t,
      exec (op.2.2.1 data) s = .next t
        ∧ t = { s with
            ports := s.ports.set op.1 { s.port op.1 with direction := data &&& (s.port op.1).physicalMask }
            trace := t.trace
            results := s.results ++ [.done] }
        ∧ (data &&& (s.port op.1).physicalMask ≠ (s.port op.1).direction →
            t.trace = s.trace ++ [.portOut op.1 (compose (t.port op.1)) (t.port op.1).direction])
        ∧ (data &&& (s.port op.1).physicalMask = (s.port op.1).direction → t.trace = s.trace))

/-- R128: PIN stores the levels of its port and changes nothing else; no event. -/
def Obligations.PinDrivesOnly : Prop :=
  ∀ (s : State) (idx : PortId) (v : Byte), s.Running →
    exec (.pin idx v) s =
      .next { s with
        ports := s.ports.set idx { s.port idx with pinIn := v }
        results := s.results ++ [.done] }

/-- Port D is input-only (40_port.md R131, decision D3): where its direction is 0, which no operation changes, a latch
write never notifies and a read with an input source connected returns the existing pins. -/
def Obligations.PortDIsInputOnly : Prop :=
  ∀ s : State, (s.port .d).direction = 0#8 →
    (∀ (i : Instr) (t : State), exec i s = .next t → (t.port .d).direction = 0#8)
      ∧ (s.Running → ∀ data, ∃ t, exec (.wrPortd data) s = .next t ∧ t.trace = s.trace
          ∧ (t.port .d).outputLatch = data &&& (s.port .d).physicalMask)
      ∧ (s.Running → s.cfg.inConn.d = true → ∃ t, exec .rdPortd s = .next t
          ∧ t.results = s.results ++ [.data ((s.port .d).pinIn &&& (s.port .d).physicalMask)])

/-- Who notifies (40_port.md R133 (c), (d)): the trace only grows; a notification of port i is sent only by `WR.PORTi` and,
for ports A to C, `WR.DDRi`, at most one per operation. That RESET emits none is decision D29 (log entry 17). -/
def Obligations.NotificationsOnlyFromPortWrites : Prop :=
  ∀ (i : Instr) (s t : State), exec i s = .next t → ∃ es, t.trace = s.trace ++ es
    ∧ (portEvents es).length ≤ 1
    ∧ ∀ p value dirmask, Event.portOut p value dirmask ∈ es →
        (∃ data, i = wrPort p data) ∨ (∃ op ∈ ddrOps, op.1 = p ∧ ∃ data, i = op.2.2.1 data)

/-- Who writes a port's elements (10_state.md R21 to R25): the mask CFGMASK in CONFIG, the direction the port's `WR.DDRi`
and RESET, the latch `WR.PORTi`, the last sample `RD.PORTi`, the pins PIN; each of its own port only. -/
def Obligations.PortElementWriters : Prop :=
  ∀ (i : Instr) (s t : State) (p : PortId), exec i s = .next t →
    ((t.port p).physicalMask ≠ (s.port p).physicalMask → s.phase = .config ∧ ∃ v, i = .cfgmask p v)
    ∧ ((t.port p).direction ≠ (s.port p).direction →
        (∃ fuse, i = .reset fuse) ∨ (∃ op ∈ ddrOps, op.1 = p ∧ ∃ data, i = op.2.2.1 data))
    ∧ ((t.port p).outputLatch ≠ (s.port p).outputLatch → ∃ data, i = wrPort p data)
    ∧ ((t.port p).lastSampledInput ≠ (s.port p).lastSampledInput → i = rdPort p ∧ s.cfg.inConn.get p = true)
    ∧ ((t.port p).pinIn ≠ (s.port p).pinIn → ∃ v, i = .pin p v)

/-! ### Timer -/

/-- R153, R155: RD and PEEK of TCR return its value and change nothing else. R154: `WR.TCR` stores the valid bits and
recomputes the timer's pending bit, and no other bit of `pending`, as `control & status & event_mask`; nothing else
changes. -/
def Obligations.TcrAccess : Prop :=
  ∀ s : State,
    (s.Running → exec .rdTcr s = .next { s with results := s.results ++ [.data s.timer.tcr] })
      ∧ exec .peekTcr s = .next { s with results := s.results ++ [.data s.timer.tcr] }
      ∧ (s.Running → ∀ data : Byte, ∃ t,
        exec (.wrTcr data) s = .next t
          ∧ t = { s with
              timer := { s.timer with tcr := data &&& 0xE3#8 }
              pending := t.pending
              results := s.results ++ [.done] }
          ∧ ∀ k < 8, t.pending.getLsbD k =
              (if k = s.cfg.nExt.val then decide ((data &&& 0xE3#8) &&& s.timer.tsr &&& 0xE0#8 ≠ 0#8)
                else s.pending.getLsbD k))

/-- R156, R158: `RD.TSR` returns the status and marks its set bits seen; PEEK returns it and marks nothing; neither
changes anything else. -/
def Obligations.TsrReadMarksSeen : Prop :=
  ∀ s : State,
    (s.Running → exec .rdTsr s =
      .next { s with
        timer := { s.timer with statusSeen := s.timer.statusSeen ||| s.timer.tsr }
        results := s.results ++ [.data s.timer.tsr] })
      ∧ exec .peekTsr s = .next { s with results := s.results ++ [.data s.timer.tsr] }

/-- R159: `RD.ICRH` returns the high byte and sets the capture inhibit; nothing else changes. R163, R164: PEEK of ICRH and
ICRL returns its byte and changes nothing else. -/
def Obligations.CaptureHighReadInhibits : Prop :=
  ∀ s : State,
    (s.Running → exec .rdIcrh s =
      .next { s with
        timer := { s.timer with captureInhibited := true }
        results := s.results ++ [.data (s.timer.inputCaptureReg.extractLsb' 8 8)] })
      ∧ exec .peekIcrh s =
          .next { s with results := s.results ++ [.data (s.timer.inputCaptureReg.extractLsb' 8 8)] }
      ∧ exec .peekIcrl s =
          .next { s with results := s.results ++ [.data (s.timer.inputCaptureReg.extractLsb' 0 8)] }

/-- `RD.ICRL` (41_timer.md R160, with decision D6): it returns the low byte and ends the inhibit; a seen ICF is cleared
with its seen bit and the timer's pending bit is recomputed; an unseen ICF stays; nothing else changes. -/
def Obligations.CaptureLowReadClearsSeenFlag : Prop :=
  ∀ s : State, s.Running → ∃ t,
    exec .rdIcrl s = .next t
      ∧ t = { s with
          timer := { s.timer with tsr := t.timer.tsr, statusSeen := t.timer.statusSeen, captureInhibited := false }
          pending := t.pending
          results := s.results ++ [.data (s.timer.inputCaptureReg.extractLsb' 0 8)] }
      ∧ (s.timer.statusSeen.getLsbD 7 = true →
          t.timer.tsr = s.timer.tsr &&& 0x7F#8 ∧ t.timer.statusSeen = s.timer.statusSeen &&& 0x7F#8
            ∧ ∀ k < 8, t.pending.getLsbD k =
                (if k = s.cfg.nExt.val then decide (s.timer.tcr &&& s.timer.tsr &&& 0x60#8 ≠ 0#8)
                  else s.pending.getLsbD k))
      ∧ (s.timer.statusSeen.getLsbD 7 = false →
          t.timer.tsr = s.timer.tsr ∧ t.timer.statusSeen = s.timer.statusSeen ∧ t.pending = s.pending)

/-- Reads of OCRH and OCRL have no side effect (41_timer.md R165, R166, decision D8), and PEEK returns the same byte. -/
def Obligations.CompareReadsHaveNoEffect : Prop :=
  ∀ s : State,
    (s.Running →
      exec .rdOcrh s = .next { s with results := s.results ++ [.data (s.timer.outputCompareReg.extractLsb' 8 8)] }
        ∧ exec .rdOcrl s =
            .next { s with results := s.results ++ [.data (s.timer.outputCompareReg.extractLsb' 0 8)] })
      ∧ exec .peekOcrh s = .next { s with results := s.results ++ [.data (s.timer.outputCompareReg.extractLsb' 8 8)] }
      ∧ exec .peekOcrl s = .next { s with results := s.results ++ [.data (s.timer.outputCompareReg.extractLsb' 0 8)] }

/-- `WR.OCRH` (41_timer.md R167, decision D7): the high byte goes straight into the register and the compare output is
inhibited; nothing else changes. -/
def Obligations.CompareHighWriteInhibits : Prop :=
  ∀ (s : State) (data : Byte), s.Running → ∃ v : Half,
    exec (.wrOcrh data) s =
        .next { s with
          timer := { s.timer with outputCompareReg := v, compareInhibited := true }
          results := s.results ++ [.done] }
      ∧ v.extractLsb' 8 8 = data ∧ v.extractLsb' 0 8 = s.timer.outputCompareReg.extractLsb' 0 8

/-- `WR.OCRL` (41_timer.md R168, with decisions D6 and D7): the low byte joins the high byte, the inhibit ends; a seen OCF
is cleared with its seen bit and the timer's pending bit recomputed; an unseen OCF stays; nothing else changes. -/
def Obligations.CompareLowWriteClearsSeenFlag : Prop :=
  ∀ (s : State) (data : Byte), s.Running → ∃ t,
    exec (.wrOcrl data) s = .next t
      ∧ t = { s with
          timer :=
            { s.timer with
              outputCompareReg := t.timer.outputCompareReg
              tsr := t.timer.tsr
              statusSeen := t.timer.statusSeen
              compareInhibited := false }
          pending := t.pending
          results := s.results ++ [.done] }
      ∧ t.timer.outputCompareReg.extractLsb' 0 8 = data
      ∧ t.timer.outputCompareReg.extractLsb' 8 8 = s.timer.outputCompareReg.extractLsb' 8 8
      ∧ (s.timer.statusSeen.getLsbD 6 = true →
          t.timer.tsr = s.timer.tsr &&& 0xBF#8 ∧ t.timer.statusSeen = s.timer.statusSeen &&& 0xBF#8
            ∧ ∀ k < 8, t.pending.getLsbD k =
                (if k = s.cfg.nExt.val then decide (s.timer.tcr &&& s.timer.tsr &&& 0xA0#8 ≠ 0#8)
                  else s.pending.getLsbD k))
      ∧ (s.timer.statusSeen.getLsbD 6 = false →
          t.timer.tsr = s.timer.tsr ∧ t.timer.statusSeen = s.timer.statusSeen ∧ t.pending = s.pending)

/-- `RD.TRH` and `RD.ATRH` (41_timer.md R171, R173, with decision D10 that a latched sequence latches again) return the
counter's high byte and latch its low byte for their own readout; PEEK of TRH and ATRH latches nothing (R176, R178). -/
def Obligations.CounterHighReadLatchesLow : Prop :=
  ∀ s : State,
    (s.Running →
      exec .rdTrh s =
          .next { s with
            timer := { s.timer with trLatch := ⟨s.timer.counter.extractLsb' 0 8, true⟩ }
            results := s.results ++ [.data (s.timer.counter.extractLsb' 8 8)] }
        ∧ exec .rdAtrh s =
          .next { s with
            timer := { s.timer with atrLatch := ⟨s.timer.counter.extractLsb' 0 8, true⟩ }
            results := s.results ++ [.data (s.timer.counter.extractLsb' 8 8)] })
      ∧ ∀ i ∈ [Instr.peekTrh, .peekAtrh],
          exec i s = .next { s with results := s.results ++ [.data (s.timer.counter.extractLsb' 8 8)] }

/-- `RD.TRL` and `RD.ATRL` (41_timer.md R172, R174, with decisions D6 and D9): each returns its latched byte, or the live
one where nothing is latched, and ends its own sequence; RD.TRL clears a seen TOF with its seen bit, RD.ATRL never affects
a flag; PEEK of each returns the same byte and changes nothing else (R177, R179). -/
def Obligations.CounterLowReadEndsSequence : Prop :=
  ∀ (s : State) (low alow : Byte),
    low = (if s.timer.trLatch.latched then s.timer.trLatch.buf else s.timer.counter.extractLsb' 0 8) →
    alow = (if s.timer.atrLatch.latched then s.timer.atrLatch.buf else s.timer.counter.extractLsb' 0 8) →
    (s.Running → ∃ t, exec .rdTrl s = .next t
      ∧ t = { s with
          timer :=
            { s.timer with
              tsr := t.timer.tsr
              statusSeen := t.timer.statusSeen
              trLatch := ⟨s.timer.trLatch.buf, false⟩ }
          pending := t.pending
          results := s.results ++ [.data low] }
      ∧ (s.timer.statusSeen.getLsbD 5 = true →
          t.timer.tsr = s.timer.tsr &&& 0xDF#8 ∧ t.timer.statusSeen = s.timer.statusSeen &&& 0xDF#8
            ∧ ∀ k < 8, t.pending.getLsbD k =
                (if k = s.cfg.nExt.val then decide (s.timer.tcr &&& s.timer.tsr &&& 0xC0#8 ≠ 0#8)
                  else s.pending.getLsbD k))
      ∧ (s.timer.statusSeen.getLsbD 5 = false →
          t.timer.tsr = s.timer.tsr ∧ t.timer.statusSeen = s.timer.statusSeen ∧ t.pending = s.pending))
    ∧ (s.Running → exec .rdAtrl s =
      .next { s with
        timer := { s.timer with atrLatch := ⟨s.timer.atrLatch.buf, false⟩ }
        results := s.results ++ [.data alow] })
    ∧ exec .peekTrl s = .next { s with results := s.results ++ [.data low] }
    ∧ exec .peekAtrl s = .next { s with results := s.results ++ [.data alow] }

/-- The coherence of the counter readouts (20_memory.md R71, derived of the spec; the latch is decision D10): after a
high-byte read, whatever burns follow, the low-byte read returns the low byte the counter had at the high-byte read, so
the two bytes are one counter value. -/
def Obligations.CounterReadIsCoherent : Prop :=
  ∀ (s u : State) (burns : List Half),
    ∀ op ∈ [(Instr.rdTrh, Instr.rdTrl), (Instr.rdAtrh, Instr.rdAtrl)],
      execAll (op.1 :: burns.map Instr.burn ++ [op.2]) s = some u →
        ∃ hi lo : Byte, hi ++ lo = s.timer.counter
          ∧ u.results = s.results ++ [.data hi] ++ burns.map (fun _ => Response.done) ++ [.data lo]

/-- R181 (the sense of IEDG is decision D5, the edge as an operation D12): TCAP with the edge that IEDG selects, not
inhibited, latches the counter, sets ICF and recomputes the timer's pending bit; any other TCAP changes nothing. -/
def Obligations.TcapCapturesSelectedEdge : Prop :=
  ∀ (s : State) (rising : Bool), s.Running →
    (rising = s.timer.tcr.getLsbD 1 → s.timer.captureInhibited = false → ∃ t,
      exec (.tcap rising) s = .next t
        ∧ t = { s with
            timer := { s.timer with inputCaptureReg := s.timer.counter, tsr := s.timer.tsr ||| 0x80#8 }
            pending := t.pending
            results := s.results ++ [.done] }
        ∧ ∀ k < 8, t.pending.getLsbD k =
            (if k = s.cfg.nExt.val then decide (s.timer.tcr &&& (s.timer.tsr ||| 0x80#8) &&& 0xE0#8 ≠ 0#8)
              else s.pending.getLsbD k))
    ∧ ((rising ≠ s.timer.tcr.getLsbD 1 ∨ s.timer.captureInhibited = true) →
        exec (.tcap rising) s = .next { s with results := s.results ++ [.done] })

/-- The capture inhibit (10_state.md R34): it is set by `RD.ICRH`, cleared by `RD.ICRL` and by reset, and by nothing else;
while it is true a capture event changes nothing. That RESET clears it is decision D25 (log entry 17). -/
def Obligations.CaptureInhibitWindow : Prop :=
  ∀ (i : Instr) (s t : State), exec i s = .next t →
    (i = .rdIcrh → t.timer.captureInhibited = true)
    ∧ ((i = .rdIcrl ∨ ∃ fuse, i = .reset fuse) → t.timer.captureInhibited = false)
    ∧ (i ≠ .rdIcrh → i ≠ .rdIcrl → (∀ fuse, i ≠ .reset fuse) →
        t.timer.captureInhibited = s.timer.captureInhibited)
    ∧ (s.timer.captureInhibited = true → ∀ rising, i = .tcap rising →
        t = { s with results := s.results ++ [.done] })

/-- The compare inhibit (10_state.md R35): it is set by `WR.OCRH`, cleared by `WR.OCRL` and by reset, and by nothing else;
while it is true a compare match of a burn or of an acknowledge burn sets OCF, and no compare-output event is emitted by any
operation. That RESET clears it is decision D25 and that RESET emits nothing D29 (log entry 17). -/
def Obligations.CompareInhibitWindow : Prop :=
  ∀ (i : Instr) (s t : State), exec i s = .next t →
    ((∃ data, i = .wrOcrh data) → t.timer.compareInhibited = true)
    ∧ (((∃ data, i = .wrOcrl data) ∨ ∃ fuse, i = .reset fuse) → t.timer.compareInhibited = false)
    ∧ ((∀ data, i ≠ .wrOcrh data) → (∀ data, i ≠ .wrOcrl data) → (∀ fuse, i ≠ .reset fuse) →
        t.timer.compareInhibited = s.timer.compareInhibited)
    ∧ (s.timer.compareInhibited = true → tcmpEvents t.trace = tcmpEvents s.trace)
    ∧ (s.timer.compareInhibited = true → ∀ n : Half, i = .burn n ∨ (i = .service ∧ n = s.cfg.intAckCycles) →
        s.timer.compareHit n.toNat → t.timer.tsr.getLsbD 6 = true)

/-- The life of the three flags (10_state.md R32, 41_timer.md R152, 43_arbiter.md R232): a flag is cleared only by its own
follow-up access, after it has been seen (RD.ICRL, WR.OCRL, RD.TRL); ICF is set only by TCAP, OCF and TOF only by a burn
or an acknowledge burn; the reserved bits never change. That RESET keeps ICF, OCF and TOF is decision D25 (log entry 17);
the positions of the flags are decision D4 (log entry 16). -/
def Obligations.FlagsClearedOnlyByFollowUp : Prop :=
  ∀ (i : Instr) (s t : State), exec i s = .next t →
    (s.timer.tsr.getLsbD 7 = true → t.timer.tsr.getLsbD 7 = false →
        i = .rdIcrl ∧ s.timer.statusSeen.getLsbD 7 = true)
    ∧ (s.timer.tsr.getLsbD 6 = true → t.timer.tsr.getLsbD 6 = false →
        (∃ data, i = .wrOcrl data) ∧ s.timer.statusSeen.getLsbD 6 = true)
    ∧ (s.timer.tsr.getLsbD 5 = true → t.timer.tsr.getLsbD 5 = false →
        i = .rdTrl ∧ s.timer.statusSeen.getLsbD 5 = true)
    ∧ (s.timer.tsr.getLsbD 7 = false → t.timer.tsr.getLsbD 7 = true → ∃ rising, i = .tcap rising)
    ∧ (∀ b, b = 5 ∨ b = 6 → s.timer.tsr.getLsbD b = false → t.timer.tsr.getLsbD b = true →
        (∃ n, i = .burn n) ∨ i = .service)
    ∧ (∀ b < 5, t.timer.tsr.getLsbD b = s.timer.tsr.getLsbD b)

/-! ### Cycle advance -/

/-- R180, the timer's part of BURN: the prescaler accumulates, the counter takes the increment mod 65536, TOF is set iff
the untruncated sum reaches 0x10000, OCF iff the compare register is strictly above the counter and at or below the sum,
with a compare-output event of level OLVL unless inhibited; the timer's pending bit is recomputed. -/
def Obligations.BurnAdvancesTimer : Prop :=
  ∀ (s : State) (n : Half), s.Running → ∃ t, exec (.burn n) s = .next t
    ∧ t.timer = { s.timer with
        counter := t.timer.counter, prescaler := t.timer.prescaler, tsr := t.timer.tsr }
    ∧ t.timer.prescaler.toNat = (s.timer.prescaler.toNat + n.toNat) % 16
    ∧ t.timer.counter.toNat =
        (s.timer.counter.toNat + (s.timer.prescaler.toNat + n.toNat) / 16) % 65536
    ∧ (∀ b < 8, t.timer.tsr.getLsbD b =
        (s.timer.tsr.getLsbD b || (decide (b = 5) && decide (s.timer.wraps n.toNat))
          || (decide (b = 6) && decide (s.timer.compareHit n.toNat))))
    ∧ tcmpEvents t.trace = tcmpEvents s.trace ++
        (if s.timer.compareHit n.toNat ∧ s.timer.compareInhibited = false
          then [.tcmp (s.timer.tcr.getLsbD 0)] else [])
    ∧ t.pending.getLsbD s.cfg.nExt.val = decide (s.timer.tcr &&& t.timer.tsr &&& 0xE0#8 ≠ 0#8)

/-- All of BURN (44_system.md R251, R252; the order of the events is decision D31, the two timeout tests D18 and D22):
what each watchdog does, the events in the order timer, PCOP, NCOP, and what stays; where the compare output is emitted its
pin is then at the level OLVL (10_state.md R51). -/
def Obligations.BurnAdvancesAll : Prop :=
  ∀ (s : State) (n : Half), s.Running → ∃ t, exec (.burn n) s = .next t
    ∧ t = { s with
        timer := t.timer, pcop := t.pcop, ncop := t.ncop, pending := t.pending
        resetPending := t.resetPending, trace := t.trace, results := s.results ++ [.done] }
    ∧ (∀ k < 8, k ≠ s.cfg.nExt.val → t.pending.getLsbD k = s.pending.getLsbD k)
    ∧ (s.timer.compareHit n.toNat → s.timer.compareInhibited = false → comparePin t = s.timer.tcr.getLsbD 0)
    ∧ (s.cfg.hasPcop = false → t.pcop = s.pcop) ∧ (s.cfg.hasNcop = false → t.ncop = s.ncop)
    ∧ (s.cfg.hasPcop = true → t.pcop.counter.toNat = (s.pcop.counter.toNat + n.toNat) % 2 ^ 21
        ∧ t.pcop.disarmStage = s.pcop.disarmStage)
    ∧ (s.cfg.hasNcop = true → t.ncop.counter.toNat = (s.ncop.counter.toNat + n.toNat) % 2 ^ 17
        ∧ t.ncop.enabled = s.ncop.enabled)
    ∧ ∃ pcopOut ncopOut : Bool,
        pcopOut = (s.cfg.hasPcop && s.pcop.copcr.getLsbD 2 &&
          decide (2 ^ (15 + 2 * (s.pcop.copcr.extractLsb' 0 2).toNat) ≤
            s.pcop.counter.toNat % 2 ^ (15 + 2 * (s.pcop.copcr.extractLsb' 0 2).toNat) + n.toNat))
        ∧ ncopOut = (s.cfg.hasNcop && s.ncop.enabled && decide (2 ^ 17 ≤ s.ncop.counter.toNat + n.toNat))
        ∧ t.pcop.copcr = (if pcopOut then s.pcop.copcr ||| 0x10#8 else s.pcop.copcr)
        ∧ t.resetPending = (pcopOut || ncopOut)
        ∧ t.trace = s.trace
          ++ (if s.timer.compareHit n.toNat ∧ s.timer.compareInhibited = false
              then [.tcmp (s.timer.tcr.getLsbD 0)] else [])
          ++ (if pcopOut then [.resetReq .pcop] else []) ++ (if ncopOut then [.resetReq .ncop] else [])

/-- The chunking law (41_timer.md R182, 44_system.md R260, derived of the spec, resting on decisions D18 and D22): two
burns and one burn of their sum end with the same counter, prescaler, TOF, watchdog counters, COPF and reset request. -/
def Obligations.BurnChunkingLaw : Prop :=
  ∀ (s t u v : State) (n m k : Half), k.toNat = n.toNat + m.toNat →
    exec (.burn n) s = .next t → exec (.burn m) t = .next u → exec (.burn k) s = .next v →
      u.timer.counter = v.timer.counter ∧ u.timer.prescaler = v.timer.prescaler
        ∧ u.timer.tsr.getLsbD 5 = v.timer.tsr.getLsbD 5
        ∧ u.pcop = v.pcop ∧ u.ncop = v.ncop ∧ u.resetPending = v.resetPending

/-- Compare corner cases (41_timer.md R183, derived of the spec): a compare value of 0 never matches, and a burn that
wraps the counter passes over a compare value at or below the wrapped end value. -/
def Obligations.CompareValuesPassedOver : Prop :=
  ∀ (s t : State) (n : Half), exec (.burn n) s = .next t →
    (s.timer.outputCompareReg = 0#16 ∨
      (s.timer.wraps n.toNat ∧
        s.timer.outputCompareReg.toNat ≤ s.timer.counter.toNat + (s.timer.prescaler.toNat + n.toNat) / 16 - 0x10000)) →
      t.timer.tsr.getLsbD 6 = s.timer.tsr.getLsbD 6 ∧ tcmpEvents t.trace = tcmpEvents s.trace

/-- R250: nothing advances except inside a BURN or the acknowledge burn of SERVICE: any other operation leaves the
prescaler, the counter and the watchdog counters as they are, but for RESET, a disarm write and WRCOPR, which set them. -/
def Obligations.NothingAdvancesButInBurns : Prop :=
  ∀ (i : Instr) (s t : State), exec i s = .next t →
    (∀ n, i ≠ .burn n) → i ≠ .service → (∀ fuse, i ≠ .reset fuse) →
      t.timer.counter = s.timer.counter ∧ t.timer.prescaler = s.timer.prescaler
        ∧ ((∀ data, i ≠ .wrCoprst data) → t.pcop.counter = s.pcop.counter)
        ∧ ((∀ data, i ≠ .wrcopr data) → t.ncop.counter = s.ncop.counter)

/-! ### Watchdogs -/

/-- `WR.COPRST` (42_watchdog.md R202, with decisions D19 and D21): 0x55 arms; 0xAA while armed clears the disarm bits of
the counter and consumes the arm; every other write disarms the sequence and leaves the counter; nothing else changes. -/
def Obligations.DisarmSequence : Prop :=
  ∀ (s : State) (data : Byte), s.Running → s.cfg.hasPcop = true → ∃ t,
    exec (.wrCoprst data) s = .next t
      ∧ t = { s with
          pcop := { s.pcop with counter := t.pcop.counter, disarmStage := t.pcop.disarmStage }
          results := s.results ++ [.done] }
      ∧ t.pcop.disarmStage = (if data = 0x55#8 then 1#8 else 0#8)
      ∧ ∀ b < 21, t.pcop.counter.getLsbD b =
          (if data = 0xAA#8 ∧ s.pcop.disarmStage = 1#8
            then s.pcop.counter.getLsbD b && !s.cfg.pcopDisarmClear.getLsbD b
            else s.pcop.counter.getLsbD b)

/-- R204, R206: `RD.COPCR` returns the control register as it was and clears COPF only; PEEK returns it and clears
nothing. -/
def Obligations.CopcrReadClearsFault : Prop :=
  ∀ s : State, s.cfg.hasPcop = true →
    (s.Running → exec .rdCopcr s =
      .next { s with
        pcop := { s.pcop with copcr := s.pcop.copcr &&& 0xEF#8 }
        results := s.results ++ [.data s.pcop.copcr] })
      ∧ exec .peekCopcr s = .next { s with results := s.results ++ [.data s.pcop.copcr] }

/-- `WR.COPCR` (42_watchdog.md R205, with decisions D17 and D20): a write that would clear PCOPE is ignored whole; any
other sets CM, may set PCOPE, never changes COPF, and leaves the reserved bits 0; nothing else changes. -/
def Obligations.CopcrWriteSetOnlyEnable : Prop :=
  ∀ (s : State) (data : Byte), s.Running → s.cfg.hasPcop = true → ∃ v : Byte,
    exec (.wrCopcr data) s =
        .next { s with pcop := { s.pcop with copcr := v }, results := s.results ++ [.done] }
      ∧ (s.pcop.copcr.getLsbD 2 = true → data.getLsbD 2 = false → v = s.pcop.copcr)
      ∧ (s.pcop.copcr.getLsbD 2 = false ∨ data.getLsbD 2 = true →
          v.getLsbD 0 = data.getLsbD 0 ∧ v.getLsbD 1 = data.getLsbD 1 ∧ v.getLsbD 2 = data.getLsbD 2
            ∧ v.getLsbD 4 = s.pcop.copcr.getLsbD 4 ∧ v &&& ~~~0x17#8 = 0#8)

/-- COPF and PCOPE over all operations (10_state.md R40, the positions being decision D17, log entry 16, and that RESET keeps
COPF and clears PCOPE decision D25, log entry 17): COPF is cleared only by RD.COPCR and set only in a burn or an acknowledge burn; PCOPE is set only by WR.COPCR and cleared only by RESET. -/
def Obligations.FaultAndEnableBits : Prop :=
  ∀ (i : Instr) (s t : State), exec i s = .next t →
    (s.pcop.copcr.getLsbD 4 = true → t.pcop.copcr.getLsbD 4 = false → i = .rdCopcr)
    ∧ (s.pcop.copcr.getLsbD 4 = false → t.pcop.copcr.getLsbD 4 = true → (∃ n, i = .burn n) ∨ i = .service)
    ∧ (s.pcop.copcr.getLsbD 2 = true → t.pcop.copcr.getLsbD 2 = false → ∃ fuse, i = .reset fuse)
    ∧ (s.pcop.copcr.getLsbD 2 = false → t.pcop.copcr.getLsbD 2 = true → ∃ data, i = .wrCopcr data)

/-- Accesses the block does not act on (decisions D2, D11): writes of the registers the map marks R and of unlisted offsets
are absorbed; RD and PEEK of COPRST and of unlisted offsets return a free byte and change no element of the block; where
the programmable COP is absent the accesses of COPCR and COPRST do the same (R63, R200). -/
def Obligations.UndefinedAccessesChangeNothing : Prop :=
  ∀ (s : State) (off : BitVec 5) (data : Byte),
    (s.Running → ∀ i ∈ [Instr.wrTsr data, .wrIcrh data, .wrIcrl data, .wrTrh data, .wrTrl data, .wrAtrh data,
        .wrAtrl data, .wrUnmapped off data],
      exec i s = .next { s with results := s.results ++ [.done] })
    ∧ (s.Running → ∀ i ∈ [Instr.rdCoprst, .rdUnmapped off], exec i s =
      .next { s with results := s.results ++ [.data (Config.freeByte s.draws)], draws := s.draws + 1 })
    ∧ (∀ i ∈ [Instr.peekCoprst, .peekUnmapped off], exec i s =
      .next { s with results := s.results ++ [.data (Config.freeByte s.draws)], draws := s.draws + 1 })
    ∧ (s.cfg.hasPcop = false →
        (s.Running → exec .rdCopcr s =
          .next { s with results := s.results ++ [.data (Config.freeByte s.draws)], draws := s.draws + 1 })
        ∧ exec .peekCopcr s =
          .next { s with results := s.results ++ [.data (Config.freeByte s.draws)], draws := s.draws + 1 }
        ∧ (s.Running → ∀ i ∈ [Instr.wrCoprst data, .wrCopcr data],
            exec i s = .next { s with results := s.results ++ [.done] }))

/-- A programmable COP serviced in time never times out (42_watchdog.md R213 (a), derived of the spec, for the literal
disarm mask of decision D19 and the timeout test of D18): from a counter whose low 15 bits are 0, service intervals of
fewer than 2^15 cycles each complete without a reset request and without COPF, for every CM. -/
def Obligations.ServicedPcopNeverTimesOut : Prop :=
  ∀ (s : State) (intervals : List (List Half)),
    s.Running → s.cfg.hasPcop = true → s.cfg.pcopDisarmClear = 0x007FFF#21 →
    (s.cfg.hasNcop = false ∨ s.ncop.enabled = false) → s.pcop.counter &&& 0x007FFF#21 = 0#21 →
    (∀ burns ∈ intervals, cyclesTotal burns < 2 ^ 15) →
      ∃ t, execAll (intervals.map serviceInterval).flatten s = some t ∧ t.Running
        ∧ t.pcop.copcr = s.pcop.copcr ∧ t.pcop.counter = s.pcop.counter

/-- WRCOPR (42_watchdog.md R220, R221, decision D22): a write with the clear bit 0 clears the counter where the watchdog is
present; any other write changes nothing. -/
def Obligations.WrcoprClearsCounter : Prop :=
  ∀ (s : State) (data : Byte), s.Running →
    exec (.wrcopr data) s =
      .next { s with
        ncop := if s.cfg.hasNcop = true ∧ data.getLsbD s.cfg.ncopClrBit.val = false
          then { s.ncop with counter := 0#17 } else s.ncop
        results := s.results ++ [.done] }

/-- The non-programmable COP's period (42_watchdog.md R222, its gating being decision D22): from a cleared counter, burns
of fewer than 2^17 cycles raise no request of it; where the programmable COP cannot request, they complete, and a burn that
completes the period requests a reset. -/
def Obligations.NcopPeriod : Prop :=
  ∀ (s : State) (burns : List Half),
    s.Running → s.cfg.hasNcop = true → s.ncop.enabled = true → s.ncop.counter = 0#17 →
    (s.cfg.hasPcop = false ∨ s.pcop.copcr.getLsbD 2 = false) → cyclesTotal burns < 2 ^ 17 →
      ∃ t, execAll (burns.map Instr.burn) s = some t ∧ t.Running ∧ t.ncop.counter.toNat = cyclesTotal burns
        ∧ ∀ n : Half, 2 ^ 17 ≤ cyclesTotal burns + n.toNat →
            ∃ u, exec (.burn n) t = .next u ∧ u.resetPending = true

/-- Reset requests (10_state.md R44, 42_watchdog.md R224, 70_reset_and_hazards.md R306, decision D24): `reset_pending` is
set only in a burn or an acknowledge burn that itself emits a ResetReq event, and cleared only by RESET; the enable of the
non-programmable COP is written by RESET alone (R42). -/
def Obligations.ResetRequestLife : Prop :=
  ∀ (i : Instr) (s t : State), exec i s = .next t →
    (s.resetPending = false → t.resetPending = true →
        ((∃ n, i = .burn n) ∨ i = .service) ∧ ∃ es src, t.trace = s.trace ++ es ∧ Event.resetReq src ∈ es)
    ∧ (s.resetPending = true → t.resetPending = false → ∃ fuse, i = .reset fuse)
    ∧ (t.ncop.enabled ≠ s.ncop.enabled → ∃ fuse, i = .reset fuse)

/-! ### Arbiter -/

/-- `IRQ` (43_arbiter.md R233; the edge as an operation is decision D13): a line below `N_EXT` sets its own pending bit and
nothing else changes; a line that does not exist is refused (R102). -/
def Obligations.IrqLatchesItsLine : Prop :=
  ∀ (s : State) (line : Fin 8),
    (line < s.cfg.nExt → s.Running → ∃ v : Byte,
      exec (.irq line) s = .next { s with pending := v, results := s.results ++ [.done] }
        ∧ ∀ k < 8, v.getLsbD k = (decide (k = line.val) || s.pending.getLsbD k))
    ∧ (s.cfg.nExt ≤ line → exec (.irq line) s = .refused (.operation (.invalidWord .noSuchLine)))

/-- `SERVICE` (43_arbiter.md R235, R236, R239; layout and priority are decisions D14 and D15): with a known source pending
it picks the first pending source of PRIORITY, emits the four pushes, SetI and the source's vector in that order, clears
the bit of an external source only, and then burns the acknowledge cycles as a BURN does. -/
def Obligations.ServiceDispatchesOneSource : Prop :=
  ∀ s : State, s.Running → s.cfg.WellFormed → s.pending &&& knownMask s.cfg ≠ 0#8 →
    ∃ (before after : List Source) (src : Source) (v : Byte) (t : State),
      s.cfg.priority = before ++ src :: after
        ∧ s.pending.getLsbD (sourceBit s.cfg src) = true
        ∧ (∀ x ∈ before, s.pending.getLsbD (sourceBit s.cfg x) = false)
        ∧ exec .service s = .next t
        ∧ exec (.burn s.cfg.intAckCycles)
            { s with
              pending := v
              trace := s.trace ++ [.push .pc, .push .x, .push .a, .push .cc, .setI,
                .vector (match src with | .ext k => s.cfg.vecExt.get k | .timer => s.cfg.vecTimer)] } = .next t
        ∧ ∀ k < 8, v.getLsbD k =
            (s.pending.getLsbD k && match src with | .ext line => decide (k ≠ line.val) | .timer => true)

/-- The default priority (43_arbiter.md R237, decision D15): with PRIORITY the lines by index and then the timer, SERVICE
takes the lowest pending line, and the timer only when no line is pending. -/
def Obligations.DefaultPriorityOrder : Prop :=
  ∀ s t : State, s.cfg.priority = Config.linesThenTimer s.cfg.nExt → exec .service s = .next t →
    (∀ line : Fin 8, line < s.cfg.nExt → s.pending.getLsbD line.val = true →
        (∀ k : Fin 8, k < line → s.pending.getLsbD k.val = false) →
        ∃ es, t.trace = s.trace ++ [.push .pc, .push .x, .push .a, .push .cc, .setI, .vector (s.cfg.vecExt.get line)]
            ++ es ∧ t.pending.getLsbD line.val = false)
    ∧ ((∀ k : Fin 8, k < s.cfg.nExt → s.pending.getLsbD k.val = false) →
        ∃ es, t.trace = s.trace ++ [.push .pc, .push .x, .push .a, .push .cc, .setI, .vector s.cfg.vecTimer] ++ es)

/-- The life of an external pending bit (43_arbiter.md R232, R240 (b)): for a line below `N_EXT`, the bit is set only by the
line's IRQ, and cleared only by a SERVICE that itself sends the core to the line's vector, or by RESET (decision D34, log
entry 17). -/
def Obligations.ExternalBitLife : Prop :=
  ∀ (i : Instr) (s t : State) (line : Fin 8), line < s.cfg.nExt → exec i s = .next t →
    (s.pending.getLsbD line.val = false → t.pending.getLsbD line.val = true → i = .irq line)
    ∧ (s.pending.getLsbD line.val = true → t.pending.getLsbD line.val = false →
        (∃ fuse, i = .reset fuse)
          ∨ (i = .service ∧ pickSource s.cfg s.pending = some (.ext line)
              ∧ ∃ es, t.trace = s.trace ++ es ∧ Event.vector (s.cfg.vecExt.get line) ∈ es))

/-! ### Inspection -/

/-- R254: PEEK changes no element of the state, emits nothing and cannot fault, in every phase, and for every mapped
register but the ports it returns the byte RD would return from the same state; for a port it returns the composed value
over the last sample. EXPORT changes nothing either (R253). -/
def Obligations.InspectionChangesNothing : Prop :=
  (∀ (i : Instr) (s : State), i.inspection = true → ∃ r d,
      exec i s = .next { s with results := s.results ++ [r], draws := d })
    ∧ (∀ op ∈ readInspectPairs, ∀ s t : State, exec op.1 s = .next t →
        ∃ v, t.results = s.results ++ [.data v]
          ∧ exec op.2 s = .next { s with results := s.results ++ [.data v] })
    ∧ (∀ s t : State, s.cfg.hasPcop = true → exec .rdCopcr s = .next t →
        ∃ v, t.results = s.results ++ [.data v]
          ∧ exec .peekCopcr s = .next { s with results := s.results ++ [.data v] })
    ∧ (∀ (p : PortId) (s : State),
        exec (peekPort p) s = .next { s with results := s.results ++ [.data (compose (s.port p))] })

/-- EXPORT (44_system.md R253; names and order are decision D40): the ten values in their order, those of a watchdog only
where it is present, in every phase, and nothing changes. -/
def Obligations.ExportListsNamedState : Prop :=
  ∀ s : State, ∃ items,
    exec .exportState s = .next { s with results := s.results ++ [.values items] }
      ∧ items.take 6 =
          [.tcr s.timer.tcr, .tsr s.timer.tsr, .icr s.timer.inputCaptureReg, .ocr s.timer.outputCompareReg,
            .ps s.timer.prescaler, .tr s.timer.counter]
      ∧ items.drop 6 =
          match s.cfg.hasPcop, s.cfg.hasNcop with
          | false, false => []
          | true, false => [.coprst s.pcop.disarmStage, .copcr s.pcop.copcr, .pcop s.pcop.counter]
          | false, true => [.ncop s.ncop.counter]
          | true, true =>
            [.coprst s.pcop.disarmStage, .copcr s.pcop.copcr, .pcop s.pcop.counter, .ncop s.ncop.counter]

/-- Every operation that is applied answers the host once, leaves the configuration and the waiting words alone, and only
appends to the output trace (00_scope.md R15, 10_state.md R50, R53); after it the compare output pin is at the level of the
last `Tcmp` of the trace, and an operation that emits none leaves the pin as it was once there has been one (R51). -/
def Obligations.OneResponsePerOperation : Prop :=
  ∀ (i : Instr) (s t : State), exec i s = .next t →
    t.cfg = s.cfg ∧ t.ops = s.ops ∧ (∃ es, t.trace = s.trace ++ es)
      ∧ (∀ before after level, t.trace = before ++ .tcmp level :: after → tcmpEvents after = [] → comparePin t = level)
      ∧ (tcmpEvents t.trace = tcmpEvents s.trace → tcmpEvents s.trace ≠ [] → comparePin t = comparePin s)
      ∧ ∃ r, t.results = s.results ++ [r] ∧ ∀ why, r ≠ .refused why

/-! ### Invariants -/

/-- The invariants hold at the reset state, and right after construction for every value of every parameter (R52, the
power-on column of decision D26). -/
def Obligations.ResetAndPowerOnMeetInvariants : Prop :=
  (Inv State.reset ∧ NotificationsMasked State.reset)
    ∧ ∀ (cfg : Config) (p : PowerOn), Inv (State.powerOn cfg p) ∧ NotificationsMasked (State.powerOn cfg p)

/-- Every step from any state that meets `Inv` gives a state that meets it: the invariants of R22, R31, R32, R33, R39, R40,
R231, R240 (a) and R44 are kept by every operation. Parts of it hold by decisions of the spec and not by its source:
`seen_set` by D6 (log entry 18), `stage_legal` by D21 and `request_running` by D24 (log entry 19), `portD_input` by D3 (log
entry 20), the reserved positions by D4 and D17 (log entry 16), the layout of `pending` by D14 (log entry 21), the reset and
power-on values by D25, D26 (log entry 17), the phases by D27 (log entry 22). -/
def Obligations.StepKeepsInvariant : Prop :=
  ∀ s t : State, Inv s → step s = .next t → Inv t

/-- Every step keeps the notifications masked (40_port.md R133 (b)): no notification ever reports an absent bit. -/
def Obligations.StepKeepsNotificationsMasked : Prop :=
  ∀ s t : State, Inv s → NotificationsMasked s → step s = .next t → NotificationsMasked t
end

