-- ==== Sys2Proof/Laws/Decode.lean ====
section
/-! SUPPORT. The bits and the fields of the operation words that the encoder builds, and their must-be-zero bits. -/

namespace Sys2Proof

/-! ### The bits -/

theorem busWord_getLsbD (k : BitVec 4) (off : BitVec 5) (d : Byte) (i : Nat) :
    (busWord k off d).getLsbD i =
      if i < 8 then d.getLsbD i else if i < 13 then off.getLsbD (i - 8) else if i < 20 then false else k.getLsbD (i - 20) := by
  change BitVec.getLsbD (w := 4 + 7 + 5 + 8) (k ++ 0#7 ++ off ++ d) i = _
  simp only [BitVec.getLsbD_append, BitVec.getLsbD_zero]
  split_ifs <;> first | rfl | omega
theorem cyclesWord_getLsbD (n : Half) (i : Nat) :
    (cyclesWord n).getLsbD i =
      if i < 16 then n.getLsbD i else if i < 20 then false else (0x3#4).getLsbD (i - 20) := by
  change BitVec.getLsbD (w := 4 + 4 + 16) (0x3#4 ++ 0#4 ++ n) i = _
  simp only [BitVec.getLsbD_append, BitVec.getLsbD_zero]
  split_ifs <;> first | rfl | omega
theorem bitWord_getLsbD (k : BitVec 4) (b : Bool) (i : Nat) :
    (bitWord k b).getLsbD i =
      if i < 1 then (BitVec.ofBool b).getLsbD i else if i < 20 then false else k.getLsbD (i - 20) := by
  change BitVec.getLsbD (w := 4 + 19 + 1) (k ++ 0#19 ++ BitVec.ofBool b) i = _
  simp only [BitVec.getLsbD_append, BitVec.getLsbD_zero]
  split_ifs <;> first | rfl | omega
theorem plainWord_getLsbD (k : BitVec 4) (i : Nat) :
    (plainWord k).getLsbD i =
      if i < 20 then false else k.getLsbD (i - 20) := by
  change BitVec.getLsbD (w := 4 + 20) (k ++ 0#20) i = _
  simp only [BitVec.getLsbD_append, BitVec.getLsbD_zero]
theorem portWord_getLsbD (k : BitVec 4) (idx : PortId) (v : Byte) (i : Nat) :
    (portWord k idx v).getLsbD i =
      if i < 8 then v.getLsbD i else if i < 10 then idx.code.getLsbD (i - 8) else if i < 20 then false
        else k.getLsbD (i - 20) := by
  change BitVec.getLsbD (w := 4 + 10 + 2 + 8) (k ++ 0#10 ++ idx.code ++ v) i = _
  simp only [BitVec.getLsbD_append, BitVec.getLsbD_zero]
  split_ifs <;> first | rfl | omega
theorem dataWord_getLsbD (d : Byte) (i : Nat) :
    (dataWord d).getLsbD i =
      if i < 8 then d.getLsbD i else if i < 20 then false else (0x9#4).getLsbD (i - 20) := by
  change BitVec.getLsbD (w := 4 + 12 + 8) (0x9#4 ++ 0#12 ++ d) i = _
  simp only [BitVec.getLsbD_append, BitVec.getLsbD_zero]
  split_ifs <;> first | rfl | omega

/-! ### The fields -/

@[simp] theorem kindOf_busWord (k : BitVec 4) (off : BitVec 5) (d : Byte) : kindOf (busWord k off d) = k := by
  apply BitVec.eq_of_getLsbD_eq
  intro i hi
  interval_cases i <;> simp only [kindOf, BitVec.getLsbD_extractLsb', busWord_getLsbD] <;> rfl
@[simp] theorem kindOf_cyclesWord (n : Half) : kindOf (cyclesWord n) = 0x3#4 := by
  apply BitVec.eq_of_getLsbD_eq
  intro i hi
  interval_cases i <;> simp only [kindOf, BitVec.getLsbD_extractLsb', cyclesWord_getLsbD] <;> rfl
@[simp] theorem kindOf_bitWord (k : BitVec 4) (b : Bool) : kindOf (bitWord k b) = k := by
  apply BitVec.eq_of_getLsbD_eq
  intro i hi
  interval_cases i <;> simp only [kindOf, BitVec.getLsbD_extractLsb', bitWord_getLsbD] <;> rfl
@[simp] theorem kindOf_lineWord (line : Fin 8) : kindOf (lineWord line) = 0x5#4 := by
  revert line; decide
@[simp] theorem kindOf_plainWord (k : BitVec 4) : kindOf (plainWord k) = k := by
  apply BitVec.eq_of_getLsbD_eq
  intro i hi
  interval_cases i <;> simp only [kindOf, BitVec.getLsbD_extractLsb', plainWord_getLsbD] <;> rfl
@[simp] theorem kindOf_portWord (k : BitVec 4) (idx : PortId) (v : Byte) : kindOf (portWord k idx v) = k := by
  apply BitVec.eq_of_getLsbD_eq
  intro i hi
  interval_cases i <;> simp only [kindOf, BitVec.getLsbD_extractLsb', portWord_getLsbD] <;> rfl
@[simp] theorem kindOf_dataWord (d : Byte) : kindOf (dataWord d) = 0x9#4 := by
  apply BitVec.eq_of_getLsbD_eq
  intro i hi
  interval_cases i <;> simp only [kindOf, BitVec.getLsbD_extractLsb', dataWord_getLsbD] <;> rfl

@[simp] theorem offOf_busWord (k : BitVec 4) (off : BitVec 5) (d : Byte) : offOf (busWord k off d) = off := by
  apply BitVec.eq_of_getLsbD_eq
  intro i hi
  interval_cases i <;> simp only [offOf, BitVec.getLsbD_extractLsb', busWord_getLsbD] <;> rfl
@[simp] theorem dataOf_busWord (k : BitVec 4) (off : BitVec 5) (d : Byte) : dataOf (busWord k off d) = d := by
  apply BitVec.eq_of_getLsbD_eq
  intro i hi
  interval_cases i <;> simp only [dataOf, BitVec.getLsbD_extractLsb', busWord_getLsbD] <;> rfl
@[simp] theorem dataOf_portWord (k : BitVec 4) (idx : PortId) (v : Byte) : dataOf (portWord k idx v) = v := by
  apply BitVec.eq_of_getLsbD_eq
  intro i hi
  interval_cases i <;> simp only [dataOf, BitVec.getLsbD_extractLsb', portWord_getLsbD] <;> rfl
@[simp] theorem dataOf_dataWord (d : Byte) : dataOf (dataWord d) = d := by
  apply BitVec.eq_of_getLsbD_eq
  intro i hi
  interval_cases i <;> simp only [dataOf, BitVec.getLsbD_extractLsb', dataWord_getLsbD] <;> rfl
@[simp] theorem cyclesOf_cyclesWord (n : Half) : cyclesOf (cyclesWord n) = n := by
  apply BitVec.eq_of_getLsbD_eq
  intro i hi
  interval_cases i <;> simp only [cyclesOf, BitVec.getLsbD_extractLsb', cyclesWord_getLsbD] <;> rfl
@[simp] theorem bitOf_bitWord (k : BitVec 4) (b : Bool) : bitOf (bitWord k b) = b := by
  cases b <;> simp only [bitOf, bitWord_getLsbD] <;> rfl
@[simp] theorem lineOf_lineWord (line : Fin 8) : lineOf (lineWord line) = line := by
  revert line; decide
@[simp] theorem portOf_portWord (k : BitVec 4) (idx : PortId) (v : Byte) : portOf (portWord k idx v) = idx := by
  have h : (portWord k idx v).extractLsb' 8 2 = idx.code := by
    apply BitVec.eq_of_getLsbD_eq
    intro i hi
    interval_cases i <;> simp only [BitVec.getLsbD_extractLsb', portWord_getLsbD] <;> rfl
  rw [portOf, h]
  cases idx <;> rfl

/-! ### The must-be-zero bits -/

theorem readWord_mustBeZero (off : BitVec 5) : busWord 0#4 off 0#8 &&& mustBeZero 0#4 = 0#24 := by
  apply BitVec.eq_of_getLsbD_eq
  intro i hi
  rw [BitVec.getLsbD_and, busWord_getLsbD]
  interval_cases i <;> simp [mustBeZero]
theorem inspectWord_mustBeZero (off : BitVec 5) : busWord 2#4 off 0#8 &&& mustBeZero 2#4 = 0#24 := by
  apply BitVec.eq_of_getLsbD_eq
  intro i hi
  rw [BitVec.getLsbD_and, busWord_getLsbD]
  interval_cases i <;> simp [mustBeZero]
theorem writeWord_mustBeZero (off : BitVec 5) (d : Byte) : busWord 1#4 off d &&& mustBeZero 1#4 = 0#24 := by
  apply BitVec.eq_of_getLsbD_eq
  intro i hi
  rw [BitVec.getLsbD_and, busWord_getLsbD]
  interval_cases i <;> simp [mustBeZero]
theorem cyclesWord_mustBeZero (n : Half) : cyclesWord n &&& mustBeZero 3#4 = 0#24 := by
  apply BitVec.eq_of_getLsbD_eq
  intro i hi
  rw [BitVec.getLsbD_and, cyclesWord_getLsbD]
  interval_cases i <;> simp [mustBeZero]
theorem captureWord_mustBeZero (b : Bool) : bitWord 4#4 b &&& mustBeZero 4#4 = 0#24 := by
  apply BitVec.eq_of_getLsbD_eq
  intro i hi
  rw [BitVec.getLsbD_and, bitWord_getLsbD]
  interval_cases i <;> simp [mustBeZero]
theorem resetWord_mustBeZero (b : Bool) : bitWord 6#4 b &&& mustBeZero 6#4 = 0#24 := by
  apply BitVec.eq_of_getLsbD_eq
  intro i hi
  rw [BitVec.getLsbD_and, bitWord_getLsbD]
  interval_cases i <;> simp [mustBeZero]
theorem lineWord_mustBeZero (line : Fin 8) : lineWord line &&& mustBeZero 5#4 = 0#24 := by
  revert line; decide
theorem pinWord_mustBeZero (idx : PortId) (v : Byte) : portWord 8#4 idx v &&& mustBeZero 8#4 = 0#24 := by
  apply BitVec.eq_of_getLsbD_eq
  intro i hi
  rw [BitVec.getLsbD_and, portWord_getLsbD]
  interval_cases i <;> simp [mustBeZero]
theorem maskWord_mustBeZero (idx : PortId) (v : Byte) : portWord 10#4 idx v &&& mustBeZero 10#4 = 0#24 := by
  apply BitVec.eq_of_getLsbD_eq
  intro i hi
  rw [BitVec.getLsbD_and, portWord_getLsbD]
  interval_cases i <;> simp [mustBeZero]
theorem dataWord_mustBeZero (d : Byte) : dataWord d &&& mustBeZero 9#4 = 0#24 := by
  apply BitVec.eq_of_getLsbD_eq
  intro i hi
  rw [BitVec.getLsbD_and, dataWord_getLsbD]
  interval_cases i <;> simp [mustBeZero]

end Sys2Proof
end

