-- ==== Sys2Proof/Laws/Exec.lean ====
section
/-! SUPPORT. What `exec` is on each operation, in the shared operations. -/

namespace Sys2Proof.Machine

variable (s : State)

theorem exec_rdPorta :
    exec .rdPorta s =
      whenRunning s (.next (readPort .a s)) := rfl
theorem exec_wrPorta (data : Byte) :
    exec (.wrPorta data) s =
      whenRunning s (.next ((writeLatch .a data s).respond .done)) := rfl
theorem exec_peekPorta :
    exec .peekPorta s =
    .next (s.respond (.data (compose (s.port .a)))) := rfl
theorem exec_rdPortb :
    exec .rdPortb s =
      whenRunning s (.next (readPort .b s)) := rfl
theorem exec_wrPortb (data : Byte) :
    exec (.wrPortb data) s =
      whenRunning s (.next ((writeLatch .b data s).respond .done)) := rfl
theorem exec_peekPortb :
    exec .peekPortb s =
    .next (s.respond (.data (compose (s.port .b)))) := rfl
theorem exec_rdPortc :
    exec .rdPortc s =
      whenRunning s (.next (readPort .c s)) := rfl
theorem exec_wrPortc (data : Byte) :
    exec (.wrPortc data) s =
      whenRunning s (.next ((writeLatch .c data s).respond .done)) := rfl
theorem exec_peekPortc :
    exec .peekPortc s =
    .next (s.respond (.data (compose (s.port .c)))) := rfl
theorem exec_rdPortd :
    exec .rdPortd s =
      whenRunning s (.next (readPort .d s)) := rfl
theorem exec_wrPortd (data : Byte) :
    exec (.wrPortd data) s =
      whenRunning s (.next ((writeLatch .d data s).respond .done)) := rfl
theorem exec_peekPortd :
    exec .peekPortd s =
    .next (s.respond (.data (compose (s.port .d)))) := rfl
theorem exec_rdDdra :
    exec .rdDdra s =
      whenRunning s (.next (s.respond (.data (s.port .a).direction))) := rfl
theorem exec_wrDdra (data : Byte) :
    exec (.wrDdra data) s =
      whenRunning s (.next ((writeDirection .a data s).respond .done)) := rfl
theorem exec_peekDdra :
    exec .peekDdra s =
    .next (s.respond (.data (s.port .a).direction)) := rfl
theorem exec_rdDdrb :
    exec .rdDdrb s =
      whenRunning s (.next (s.respond (.data (s.port .b).direction))) := rfl
theorem exec_wrDdrb (data : Byte) :
    exec (.wrDdrb data) s =
      whenRunning s (.next ((writeDirection .b data s).respond .done)) := rfl
theorem exec_peekDdrb :
    exec .peekDdrb s =
    .next (s.respond (.data (s.port .b).direction)) := rfl
theorem exec_rdDdrc :
    exec .rdDdrc s =
      whenRunning s (.next (s.respond (.data (s.port .c).direction))) := rfl
theorem exec_wrDdrc (data : Byte) :
    exec (.wrDdrc data) s =
      whenRunning s (.next ((writeDirection .c data s).respond .done)) := rfl
theorem exec_peekDdrc :
    exec .peekDdrc s =
    .next (s.respond (.data (s.port .c).direction)) := rfl
theorem exec_rdTcr :
    exec .rdTcr s =
      whenRunning s (.next (s.respond (.data s.timer.tcr))) := rfl
theorem exec_wrTcr (data : Byte) :
    exec (.wrTcr data) s =
      whenRunning s (.next (((s.setTimer { s.timer with tcr := data &&& tcrValid }).recomputeTimerPending).respond .done)) := rfl
theorem exec_peekTcr :
    exec .peekTcr s =
    .next (s.respond (.data s.timer.tcr)) := rfl
theorem exec_rdTsr :
    exec .rdTsr s =
      whenRunning s
      (.next ((s.setTimer { s.timer with statusSeen := s.timer.statusSeen ||| s.timer.tsr }).respond (.data s.timer.tsr))) := rfl
theorem exec_wrTsr (data : Byte) :
    exec (.wrTsr data) s =
      whenRunning s (.next (s.respond .done)) := rfl
theorem exec_peekTsr :
    exec .peekTsr s =
    .next (s.respond (.data s.timer.tsr)) := rfl
theorem exec_rdIcrh :
    exec .rdIcrh s =
      whenRunning s
      (.next ((s.setTimer { s.timer with captureInhibited := true }).respond (.data (hiByte s.timer.inputCaptureReg)))) := rfl
theorem exec_wrIcrh (data : Byte) :
    exec (.wrIcrh data) s =
      whenRunning s (.next (s.respond .done)) := rfl
theorem exec_peekIcrh :
    exec .peekIcrh s =
    .next (s.respond (.data (hiByte s.timer.inputCaptureReg))) := rfl
theorem exec_rdIcrl :
    exec .rdIcrl s =
      whenRunning s
      (.next (((s.setTimer { s.timer with captureInhibited := false }).clearIfSeen .icf).respond
        (.data (loByte s.timer.inputCaptureReg)))) := rfl
theorem exec_wrIcrl (data : Byte) :
    exec (.wrIcrl data) s =
      whenRunning s (.next (s.respond .done)) := rfl
theorem exec_peekIcrl :
    exec .peekIcrl s =
    .next (s.respond (.data (loByte s.timer.inputCaptureReg))) := rfl
theorem exec_rdOcrh :
    exec .rdOcrh s =
      whenRunning s (.next (s.respond (.data (hiByte s.timer.outputCompareReg)))) := rfl
theorem exec_wrOcrh (data : Byte) :
    exec (.wrOcrh data) s =
      whenRunning s
      (.next ((s.setTimer
        { s.timer with
          outputCompareReg := joinBytes data (loByte s.timer.outputCompareReg)
          compareInhibited := true }).respond .done)) := rfl
theorem exec_peekOcrh :
    exec .peekOcrh s =
    .next (s.respond (.data (hiByte s.timer.outputCompareReg))) := rfl
theorem exec_rdOcrl :
    exec .rdOcrl s =
      whenRunning s (.next (s.respond (.data (loByte s.timer.outputCompareReg)))) := rfl
theorem exec_wrOcrl (data : Byte) :
    exec (.wrOcrl data) s =
      whenRunning s
      (.next (((s.setTimer
        { s.timer with
          outputCompareReg := joinBytes (hiByte s.timer.outputCompareReg) data
          compareInhibited := false }).clearIfSeen .ocf).respond .done)) := rfl
theorem exec_peekOcrl :
    exec .peekOcrl s =
    .next (s.respond (.data (loByte s.timer.outputCompareReg))) := rfl
theorem exec_rdTrh :
    exec .rdTrh s =
      whenRunning s
      (.next ((s.setTimer { s.timer with trLatch := ⟨loByte s.timer.counter, true⟩ }).respond
        (.data (hiByte s.timer.counter)))) := rfl
theorem exec_wrTrh (data : Byte) :
    exec (.wrTrh data) s =
      whenRunning s (.next (s.respond .done)) := rfl
theorem exec_peekTrh :
    exec .peekTrh s =
    .next (s.respond (.data (hiByte s.timer.counter))) := rfl
theorem exec_rdTrl :
    exec .rdTrl s =
      whenRunning s
      (.next (((s.setTimer { s.timer with trLatch := { s.timer.trLatch with latched := false } }).clearIfSeen .tof).respond
        (.data (readoutLow s.timer.trLatch s.timer.counter)))) := rfl
theorem exec_wrTrl (data : Byte) :
    exec (.wrTrl data) s =
      whenRunning s (.next (s.respond .done)) := rfl
theorem exec_peekTrl :
    exec .peekTrl s =
    .next (s.respond (.data (readoutLow s.timer.trLatch s.timer.counter))) := rfl
theorem exec_rdAtrh :
    exec .rdAtrh s =
      whenRunning s
      (.next ((s.setTimer { s.timer with atrLatch := ⟨loByte s.timer.counter, true⟩ }).respond
        (.data (hiByte s.timer.counter)))) := rfl
theorem exec_wrAtrh (data : Byte) :
    exec (.wrAtrh data) s =
      whenRunning s (.next (s.respond .done)) := rfl
theorem exec_peekAtrh :
    exec .peekAtrh s =
    .next (s.respond (.data (hiByte s.timer.counter))) := rfl
theorem exec_rdAtrl :
    exec .rdAtrl s =
      whenRunning s
      (.next ((s.setTimer { s.timer with atrLatch := { s.timer.atrLatch with latched := false } }).respond
        (.data (readoutLow s.timer.atrLatch s.timer.counter)))) := rfl
theorem exec_wrAtrl (data : Byte) :
    exec (.wrAtrl data) s =
      whenRunning s (.next (s.respond .done)) := rfl
theorem exec_peekAtrl :
    exec .peekAtrl s =
    .next (s.respond (.data (readoutLow s.timer.atrLatch s.timer.counter))) := rfl
theorem exec_rdCoprst :
    exec .rdCoprst s =
      whenRunning s (.next s.readFree) := rfl
theorem exec_wrCoprst (data : Byte) :
    exec (.wrCoprst data) s =
      whenRunning s
      (.next ((if s.cfg.hasPcop then s.setPcop (disarmWrite s.cfg.pcopDisarmClear data s.pcop) else s).respond .done)) := rfl
theorem exec_peekCoprst :
    exec .peekCoprst s =
    .next s.readFree := rfl
theorem exec_rdCopcr :
    exec .rdCopcr s =
      whenRunning s
      (.next (if s.cfg.hasPcop then
        (s.setPcop { s.pcop with copcr := s.pcop.copcr &&& ~~~copfMask }).respond (.data s.pcop.copcr) else s.readFree)) := rfl
theorem exec_wrCopcr (data : Byte) :
    exec (.wrCopcr data) s =
      whenRunning s
      (.next ((if s.cfg.hasPcop then s.setPcop { s.pcop with copcr := controlWrite data s.pcop.copcr } else s).respond .done)) := rfl
theorem exec_peekCopcr :
    exec .peekCopcr s =
    .next (if s.cfg.hasPcop then s.respond (.data s.pcop.copcr) else s.readFree) := rfl
theorem exec_rdUnmapped (off : BitVec 5) :
    exec (.rdUnmapped off) s =
      whenRunning s (.next s.readFree) := rfl
theorem exec_wrUnmapped (off : BitVec 5) (data : Byte) :
    exec (.wrUnmapped off data) s =
      whenRunning s (.next (s.respond .done)) := rfl
theorem exec_peekUnmapped (off : BitVec 5) :
    exec (.peekUnmapped off) s =
    .next s.readFree := rfl
theorem exec_burn (n : Half) :
    exec (.burn n) s =
      whenRunning s (.next ((burnAll n.toNat s).respond .done)) := rfl
theorem exec_tcap (rising : Bool) :
    exec (.tcap rising) s =
      whenRunning s
      (.next ((if rising = s.timer.tcr.getLsbD 1 ∧ s.timer.captureInhibited = false then capture s else s).respond .done)) := rfl
theorem exec_irq (line : Fin 8) :
    exec (.irq line) s =
    if line < s.cfg.nExt then
      whenRunning s (.next ({ s with pending := putBit s.pending line.val true }.respond .done))
    else .refused (.operation (.invalidWord .noSuchLine)) := rfl
theorem exec_reset (fuse : Bool) :
    exec (.reset fuse) s =
    match s.phase with
    | .config => .refused (.operation .notStarted)
    | .started => .next ((deviceReset fuse s).respond .done)
    | .running => .next ((deviceReset fuse s).respond .done) := rfl
theorem exec_service :
    exec .service s =
      whenRunning s (serviceEntry s) := rfl
theorem exec_pin (idx : PortId) (v : Byte) :
    exec (.pin idx v) s =
      whenRunning s (.next ((s.setPort idx { s.port idx with pinIn := v }).respond .done)) := rfl
theorem exec_wrcopr (data : Byte) :
    exec (.wrcopr data) s =
      whenRunning s
      (.next ((if s.cfg.hasNcop = true ∧ data.getLsbD s.cfg.ncopClrBit.val = false then
        s.setNcop { s.ncop with counter := 0 } else s).respond .done)) := rfl
theorem exec_cfgmask (idx : PortId) (v : Byte) :
    exec (.cfgmask idx v) s =
    match s.phase with
    | .config => .next ((s.setPort idx { s.port idx with physicalMask := v }).respond .done)
    | .started => .fault .configOrder
    | .running => .fault .configOrder := rfl
theorem exec_start :
    exec .start s =
    match s.phase with
    | .config => .next ({ s with phase := .started }.respond .done)
    | .started => .refused (.operation .alreadyStarted)
    | .running => .refused (.operation .alreadyStarted) := rfl
theorem exec_exportState :
    exec .exportState s =
    .next (s.respond (.values (exportItems s))) := rfl

end Sys2Proof.Machine
end

