-- ==== Sys2Proof/Laws/State.lean ====
section
/-! SUPPORT. What each update of the state does to each field: true by definition, so that no proof unfolds an update. -/

namespace Sys2Proof.Machine

variable (s : State)

@[simp] theorem State.emit_cfg (e : Event) : (s.emit e).cfg = s.cfg := rfl
@[simp] theorem State.emit_ports (e : Event) : (s.emit e).ports = s.ports := rfl
@[simp] theorem State.emit_timer (e : Event) : (s.emit e).timer = s.timer := rfl
@[simp] theorem State.emit_pcop (e : Event) : (s.emit e).pcop = s.pcop := rfl
@[simp] theorem State.emit_ncop (e : Event) : (s.emit e).ncop = s.ncop := rfl
@[simp] theorem State.emit_pending (e : Event) : (s.emit e).pending = s.pending := rfl
@[simp] theorem State.emit_resetPending (e : Event) : (s.emit e).resetPending = s.resetPending := rfl
@[simp] theorem State.emit_phase (e : Event) : (s.emit e).phase = s.phase := rfl
@[simp] theorem State.emit_trace (e : Event) : (s.emit e).trace = s.trace ++ [e] := rfl
@[simp] theorem State.emit_results (e : Event) : (s.emit e).results = s.results := rfl
@[simp] theorem State.emit_draws (e : Event) : (s.emit e).draws = s.draws := rfl
@[simp] theorem State.emit_ops (e : Event) : (s.emit e).ops = s.ops := rfl

@[simp] theorem State.respond_cfg (r : Response) : (s.respond r).cfg = s.cfg := rfl
@[simp] theorem State.respond_ports (r : Response) : (s.respond r).ports = s.ports := rfl
@[simp] theorem State.respond_timer (r : Response) : (s.respond r).timer = s.timer := rfl
@[simp] theorem State.respond_pcop (r : Response) : (s.respond r).pcop = s.pcop := rfl
@[simp] theorem State.respond_ncop (r : Response) : (s.respond r).ncop = s.ncop := rfl
@[simp] theorem State.respond_pending (r : Response) : (s.respond r).pending = s.pending := rfl
@[simp] theorem State.respond_resetPending (r : Response) : (s.respond r).resetPending = s.resetPending := rfl
@[simp] theorem State.respond_phase (r : Response) : (s.respond r).phase = s.phase := rfl
@[simp] theorem State.respond_trace (r : Response) : (s.respond r).trace = s.trace := rfl
@[simp] theorem State.respond_results (r : Response) : (s.respond r).results = s.results ++ [r] := rfl
@[simp] theorem State.respond_draws (r : Response) : (s.respond r).draws = s.draws := rfl
@[simp] theorem State.respond_ops (r : Response) : (s.respond r).ops = s.ops := rfl

@[simp] theorem State.setPort_cfg (i : PortId) (p : Port) : (s.setPort i p).cfg = s.cfg := rfl
@[simp] theorem State.setPort_ports (i : PortId) (p : Port) : (s.setPort i p).ports = s.ports.set i p := rfl
@[simp] theorem State.setPort_timer (i : PortId) (p : Port) : (s.setPort i p).timer = s.timer := rfl
@[simp] theorem State.setPort_pcop (i : PortId) (p : Port) : (s.setPort i p).pcop = s.pcop := rfl
@[simp] theorem State.setPort_ncop (i : PortId) (p : Port) : (s.setPort i p).ncop = s.ncop := rfl
@[simp] theorem State.setPort_pending (i : PortId) (p : Port) : (s.setPort i p).pending = s.pending := rfl
@[simp] theorem State.setPort_resetPending (i : PortId) (p : Port) : (s.setPort i p).resetPending = s.resetPending := rfl
@[simp] theorem State.setPort_phase (i : PortId) (p : Port) : (s.setPort i p).phase = s.phase := rfl
@[simp] theorem State.setPort_trace (i : PortId) (p : Port) : (s.setPort i p).trace = s.trace := rfl
@[simp] theorem State.setPort_results (i : PortId) (p : Port) : (s.setPort i p).results = s.results := rfl
@[simp] theorem State.setPort_draws (i : PortId) (p : Port) : (s.setPort i p).draws = s.draws := rfl
@[simp] theorem State.setPort_ops (i : PortId) (p : Port) : (s.setPort i p).ops = s.ops := rfl

@[simp] theorem State.setTimer_cfg (t : Timer) : (s.setTimer t).cfg = s.cfg := rfl
@[simp] theorem State.setTimer_ports (t : Timer) : (s.setTimer t).ports = s.ports := rfl
@[simp] theorem State.setTimer_timer (t : Timer) : (s.setTimer t).timer = t := rfl
@[simp] theorem State.setTimer_pcop (t : Timer) : (s.setTimer t).pcop = s.pcop := rfl
@[simp] theorem State.setTimer_ncop (t : Timer) : (s.setTimer t).ncop = s.ncop := rfl
@[simp] theorem State.setTimer_pending (t : Timer) : (s.setTimer t).pending = s.pending := rfl
@[simp] theorem State.setTimer_resetPending (t : Timer) : (s.setTimer t).resetPending = s.resetPending := rfl
@[simp] theorem State.setTimer_phase (t : Timer) : (s.setTimer t).phase = s.phase := rfl
@[simp] theorem State.setTimer_trace (t : Timer) : (s.setTimer t).trace = s.trace := rfl
@[simp] theorem State.setTimer_results (t : Timer) : (s.setTimer t).results = s.results := rfl
@[simp] theorem State.setTimer_draws (t : Timer) : (s.setTimer t).draws = s.draws := rfl
@[simp] theorem State.setTimer_ops (t : Timer) : (s.setTimer t).ops = s.ops := rfl

@[simp] theorem State.setPcop_cfg (p : Pcop) : (s.setPcop p).cfg = s.cfg := rfl
@[simp] theorem State.setPcop_ports (p : Pcop) : (s.setPcop p).ports = s.ports := rfl
@[simp] theorem State.setPcop_timer (p : Pcop) : (s.setPcop p).timer = s.timer := rfl
@[simp] theorem State.setPcop_pcop (p : Pcop) : (s.setPcop p).pcop = p := rfl
@[simp] theorem State.setPcop_ncop (p : Pcop) : (s.setPcop p).ncop = s.ncop := rfl
@[simp] theorem State.setPcop_pending (p : Pcop) : (s.setPcop p).pending = s.pending := rfl
@[simp] theorem State.setPcop_resetPending (p : Pcop) : (s.setPcop p).resetPending = s.resetPending := rfl
@[simp] theorem State.setPcop_phase (p : Pcop) : (s.setPcop p).phase = s.phase := rfl
@[simp] theorem State.setPcop_trace (p : Pcop) : (s.setPcop p).trace = s.trace := rfl
@[simp] theorem State.setPcop_results (p : Pcop) : (s.setPcop p).results = s.results := rfl
@[simp] theorem State.setPcop_draws (p : Pcop) : (s.setPcop p).draws = s.draws := rfl
@[simp] theorem State.setPcop_ops (p : Pcop) : (s.setPcop p).ops = s.ops := rfl

@[simp] theorem State.setNcop_cfg (n : Ncop) : (s.setNcop n).cfg = s.cfg := rfl
@[simp] theorem State.setNcop_ports (n : Ncop) : (s.setNcop n).ports = s.ports := rfl
@[simp] theorem State.setNcop_timer (n : Ncop) : (s.setNcop n).timer = s.timer := rfl
@[simp] theorem State.setNcop_pcop (n : Ncop) : (s.setNcop n).pcop = s.pcop := rfl
@[simp] theorem State.setNcop_ncop (n : Ncop) : (s.setNcop n).ncop = n := rfl
@[simp] theorem State.setNcop_pending (n : Ncop) : (s.setNcop n).pending = s.pending := rfl
@[simp] theorem State.setNcop_resetPending (n : Ncop) : (s.setNcop n).resetPending = s.resetPending := rfl
@[simp] theorem State.setNcop_phase (n : Ncop) : (s.setNcop n).phase = s.phase := rfl
@[simp] theorem State.setNcop_trace (n : Ncop) : (s.setNcop n).trace = s.trace := rfl
@[simp] theorem State.setNcop_results (n : Ncop) : (s.setNcop n).results = s.results := rfl
@[simp] theorem State.setNcop_draws (n : Ncop) : (s.setNcop n).draws = s.draws := rfl
@[simp] theorem State.setNcop_ops (n : Ncop) : (s.setNcop n).ops = s.ops := rfl

@[simp] theorem State.readFree_cfg : (s.readFree).cfg = s.cfg := rfl
@[simp] theorem State.readFree_ports : (s.readFree).ports = s.ports := rfl
@[simp] theorem State.readFree_timer : (s.readFree).timer = s.timer := rfl
@[simp] theorem State.readFree_pcop : (s.readFree).pcop = s.pcop := rfl
@[simp] theorem State.readFree_ncop : (s.readFree).ncop = s.ncop := rfl
@[simp] theorem State.readFree_pending : (s.readFree).pending = s.pending := rfl
@[simp] theorem State.readFree_resetPending : (s.readFree).resetPending = s.resetPending := rfl
@[simp] theorem State.readFree_phase : (s.readFree).phase = s.phase := rfl
@[simp] theorem State.readFree_trace : (s.readFree).trace = s.trace := rfl
@[simp] theorem State.readFree_results : (s.readFree).results = s.results ++ [.data (Config.freeByte s.draws)] := rfl
@[simp] theorem State.readFree_draws : (s.readFree).draws = s.draws + 1 := rfl
@[simp] theorem State.readFree_ops : (s.readFree).ops = s.ops := rfl

@[simp] theorem State.recomputeTimerPending_cfg : (s.recomputeTimerPending).cfg = s.cfg := rfl
@[simp] theorem State.recomputeTimerPending_ports : (s.recomputeTimerPending).ports = s.ports := rfl
@[simp] theorem State.recomputeTimerPending_timer : (s.recomputeTimerPending).timer = s.timer := rfl
@[simp] theorem State.recomputeTimerPending_pcop : (s.recomputeTimerPending).pcop = s.pcop := rfl
@[simp] theorem State.recomputeTimerPending_ncop : (s.recomputeTimerPending).ncop = s.ncop := rfl
@[simp] theorem State.recomputeTimerPending_pending : (s.recomputeTimerPending).pending = putBit s.pending s.cfg.nExt.val (timerEvent s.timer) := rfl
@[simp] theorem State.recomputeTimerPending_resetPending : (s.recomputeTimerPending).resetPending = s.resetPending := rfl
@[simp] theorem State.recomputeTimerPending_phase : (s.recomputeTimerPending).phase = s.phase := rfl
@[simp] theorem State.recomputeTimerPending_trace : (s.recomputeTimerPending).trace = s.trace := rfl
@[simp] theorem State.recomputeTimerPending_results : (s.recomputeTimerPending).results = s.results := rfl
@[simp] theorem State.recomputeTimerPending_draws : (s.recomputeTimerPending).draws = s.draws := rfl
@[simp] theorem State.recomputeTimerPending_ops : (s.recomputeTimerPending).ops = s.ops := rfl

@[simp] theorem State.setFlag_cfg (f : TimerFlag) : (s.setFlag f).cfg = s.cfg := rfl
@[simp] theorem State.setFlag_ports (f : TimerFlag) : (s.setFlag f).ports = s.ports := rfl
@[simp] theorem State.setFlag_timer (f : TimerFlag) : (s.setFlag f).timer = { s.timer with tsr := s.timer.tsr ||| f.mask } := rfl
@[simp] theorem State.setFlag_pcop (f : TimerFlag) : (s.setFlag f).pcop = s.pcop := rfl
@[simp] theorem State.setFlag_ncop (f : TimerFlag) : (s.setFlag f).ncop = s.ncop := rfl
@[simp] theorem State.setFlag_pending (f : TimerFlag) : (s.setFlag f).pending = s.pending := rfl
@[simp] theorem State.setFlag_resetPending (f : TimerFlag) : (s.setFlag f).resetPending = s.resetPending := rfl
@[simp] theorem State.setFlag_phase (f : TimerFlag) : (s.setFlag f).phase = s.phase := rfl
@[simp] theorem State.setFlag_trace (f : TimerFlag) : (s.setFlag f).trace = s.trace := rfl
@[simp] theorem State.setFlag_results (f : TimerFlag) : (s.setFlag f).results = s.results := rfl
@[simp] theorem State.setFlag_draws (f : TimerFlag) : (s.setFlag f).draws = s.draws := rfl
@[simp] theorem State.setFlag_ops (f : TimerFlag) : (s.setFlag f).ops = s.ops := rfl

@[simp] theorem enterService_cfg (src : Source) : (enterService src s).cfg = s.cfg := rfl
@[simp] theorem enterService_ports (src : Source) : (enterService src s).ports = s.ports := rfl
@[simp] theorem enterService_timer (src : Source) : (enterService src s).timer = s.timer := rfl
@[simp] theorem enterService_pcop (src : Source) : (enterService src s).pcop = s.pcop := rfl
@[simp] theorem enterService_ncop (src : Source) : (enterService src s).ncop = s.ncop := rfl
@[simp] theorem enterService_pending (src : Source) : (enterService src s).pending = acknowledge src s.pending := rfl
@[simp] theorem enterService_resetPending (src : Source) : (enterService src s).resetPending = s.resetPending := rfl
@[simp] theorem enterService_phase (src : Source) : (enterService src s).phase = s.phase := rfl
@[simp] theorem enterService_trace (src : Source) : (enterService src s).trace = s.trace ++ entryEvents s.cfg src := rfl
@[simp] theorem enterService_results (src : Source) : (enterService src s).results = s.results := rfl
@[simp] theorem enterService_draws (src : Source) : (enterService src s).draws = s.draws := rfl
@[simp] theorem enterService_ops (src : Source) : (enterService src s).ops = s.ops := rfl

@[simp] theorem requestReset_cfg (src : Watchdog) : (requestReset src s).cfg = s.cfg := rfl
@[simp] theorem requestReset_ports (src : Watchdog) : (requestReset src s).ports = s.ports := rfl
@[simp] theorem requestReset_timer (src : Watchdog) : (requestReset src s).timer = s.timer := rfl
@[simp] theorem requestReset_pcop (src : Watchdog) : (requestReset src s).pcop = s.pcop := rfl
@[simp] theorem requestReset_ncop (src : Watchdog) : (requestReset src s).ncop = s.ncop := rfl
@[simp] theorem requestReset_pending (src : Watchdog) : (requestReset src s).pending = s.pending := rfl
@[simp] theorem requestReset_resetPending (src : Watchdog) : (requestReset src s).resetPending = true := rfl
@[simp] theorem requestReset_phase (src : Watchdog) : (requestReset src s).phase = s.phase := rfl
@[simp] theorem requestReset_trace (src : Watchdog) : (requestReset src s).trace = s.trace ++ [.resetReq src] := rfl
@[simp] theorem requestReset_results (src : Watchdog) : (requestReset src s).results = s.results := rfl
@[simp] theorem requestReset_draws (src : Watchdog) : (requestReset src s).draws = s.draws := rfl
@[simp] theorem requestReset_ops (src : Watchdog) : (requestReset src s).ops = s.ops := rfl

@[simp] theorem pushWord_ops (w : OpWord) : (pushWord w s).ops = w :: s.ops := rfl

end Sys2Proof.Machine
end

