-- ==== Sys2Proof/Laws/Flags.lean ====
section
/-! SUPPORT. The bits of the pending mask after an update, and what clearing a flag does. -/

namespace Sys2Proof.Machine

theorem putBit_getLsbD (v : Byte) (n k : Nat) (b : Bool) (hk : k < 8) :
    (putBit v n b).getLsbD k = if k = n then b else v.getLsbD k := by
  have hshift : (1#8 <<< n).getLsbD k = decide (k = n) := by
    rw [BitVec.getLsbD_shiftLeft, BitVec.getLsbD_one]
    by_cases h : k = n
    · simp [h]; omega
    · by_cases hl : k < n
      · simp [hl, h]
      · have : k - n ≠ 0 := by omega
        simp [h, this]
  unfold putBit
  cases b
  · simp only [Bool.false_eq_true, if_false, BitVec.getLsbD_and, BitVec.getLsbD_not, hshift, hk, decide_true, Bool.true_and]
    by_cases h : k = n <;> simp [h]
  · simp only [if_true, BitVec.getLsbD_or, hshift]
    by_cases h : k = n <;> simp [h]

theorem timerEvent_eq (t : Timer) : timerEvent t = decide (t.tcr &&& t.tsr &&& 0xE0#8 ≠ 0#8) := by
  simp only [timerEvent, eventMask, bne, ne_eq, decide_not]
  congr 1

/-- All the clearing of a flag can do (R152). -/
theorem State.clearFlag_eq (s : State) (f : TimerFlag) :
    s.clearFlag f =
      { s with
        timer :=
          { s.timer with
            tsr := s.timer.tsr &&& ~~~f.mask
            statusSeen := s.timer.statusSeen &&& ~~~f.mask }
        pending :=
          putBit s.pending s.cfg.nExt.val
            (decide (s.timer.tcr &&& (s.timer.tsr &&& ~~~f.mask) &&& 0xE0#8 ≠ 0#8)) } := by
  simp [State.clearFlag, State.recomputeTimerPending, timerEvent_eq]

theorem State.clearIfSeen_of_seen (s : State) (f : TimerFlag) (h : s.timer.statusSeen.getLsbD f.bit = true) :
    s.clearIfSeen f = s.clearFlag f := by
  simp [State.clearIfSeen, h]

theorem State.clearIfSeen_of_unseen (s : State) (f : TimerFlag) (h : s.timer.statusSeen.getLsbD f.bit = false) :
    s.clearIfSeen f = s := by
  simp [State.clearIfSeen, h]

/-! ### What clearing a flag leaves alone -/

@[simp] theorem State.clearIfSeen_cfg (s : State) (f : TimerFlag) : (s.clearIfSeen f).cfg = s.cfg := by
  unfold State.clearIfSeen; split <;> rfl
@[simp] theorem State.clearIfSeen_ports (s : State) (f : TimerFlag) : (s.clearIfSeen f).ports = s.ports := by
  unfold State.clearIfSeen; split <;> rfl
@[simp] theorem State.clearIfSeen_pcop (s : State) (f : TimerFlag) : (s.clearIfSeen f).pcop = s.pcop := by
  unfold State.clearIfSeen; split <;> rfl
@[simp] theorem State.clearIfSeen_ncop (s : State) (f : TimerFlag) : (s.clearIfSeen f).ncop = s.ncop := by
  unfold State.clearIfSeen; split <;> rfl
@[simp] theorem State.clearIfSeen_resetPending (s : State) (f : TimerFlag) : (s.clearIfSeen f).resetPending = s.resetPending := by
  unfold State.clearIfSeen; split <;> rfl
@[simp] theorem State.clearIfSeen_phase (s : State) (f : TimerFlag) : (s.clearIfSeen f).phase = s.phase := by
  unfold State.clearIfSeen; split <;> rfl
@[simp] theorem State.clearIfSeen_trace (s : State) (f : TimerFlag) : (s.clearIfSeen f).trace = s.trace := by
  unfold State.clearIfSeen; split <;> rfl
@[simp] theorem State.clearIfSeen_results (s : State) (f : TimerFlag) : (s.clearIfSeen f).results = s.results := by
  unfold State.clearIfSeen; split <;> rfl
@[simp] theorem State.clearIfSeen_draws (s : State) (f : TimerFlag) : (s.clearIfSeen f).draws = s.draws := by
  unfold State.clearIfSeen; split <;> rfl
@[simp] theorem State.clearIfSeen_ops (s : State) (f : TimerFlag) : (s.clearIfSeen f).ops = s.ops := by
  unfold State.clearIfSeen; split <;> rfl

/-- The status after a follow-up access (R160, R168, R172). -/
theorem State.clearIfSeen_timer (s : State) (f : TimerFlag) :
    (s.clearIfSeen f).timer =
      { s.timer with
        tsr := if s.timer.statusSeen.getLsbD f.bit then s.timer.tsr &&& ~~~f.mask else s.timer.tsr
        statusSeen :=
          if s.timer.statusSeen.getLsbD f.bit then s.timer.statusSeen &&& ~~~f.mask else s.timer.statusSeen } := by
  unfold State.clearIfSeen; split <;> rfl

/-- The pending bitmask after a follow-up access. -/
theorem State.clearIfSeen_pending (s : State) (f : TimerFlag) :
    (s.clearIfSeen f).pending =
      if s.timer.statusSeen.getLsbD f.bit then
        putBit s.pending s.cfg.nExt.val (decide (s.timer.tcr &&& (s.timer.tsr &&& ~~~f.mask) &&& 0xE0#8 ≠ 0#8))
      else s.pending := by
  unfold State.clearIfSeen; split
  · rw [State.clearFlag_eq]
  · rfl

/-- The bits of `KNOWN_MASK` (R231). -/
theorem knownMask_getLsbD (cfg : Config) (k : Nat) (hk : k < 8) :
    (knownMask cfg).getLsbD k = decide (k ≤ cfg.nExt.val) := by
  unfold knownMask
  generalize cfg.nExt = n
  revert n k
  decide

end Sys2Proof.Machine
end

