-- ==== Sys2Proof/Laws/Ports.lean ====
section
/-! SUPPORT. Selecting and replacing a port; the bits of a composed and of a sampled port value. -/

namespace Sys2Proof

variable {α : Type}

@[simp] theorem Ports.get_set_self (p : Ports α) (i : PortId) (x : α) : (p.set i x).get i = x := by
  cases i <;> rfl

theorem Ports.get_set_ne (p : Ports α) (x : α) {i j : PortId} (h : j ≠ i) : (p.set i x).get j = p.get j := by
  cases i <;> cases j <;> first | rfl | exact absurd rfl h

theorem Ports.get_set (p : Ports α) (i j : PortId) (x : α) :
    (p.set i x).get j = if j = i then x else p.get j := by
  split
  · next h => rw [h, Ports.get_set_self]
  · next h => exact Ports.get_set_ne p x h

@[simp] theorem Ports.set_get_self (p : Ports α) (i : PortId) : p.set i (p.get i) = p := by
  cases i <;> rfl

@[simp] theorem Ports.get_map {β : Type} (f : α → β) (p : Ports α) (i : PortId) : (p.map f).get i = f (p.get i) := by
  cases i <;> rfl

namespace Machine

@[simp] theorem State.setPort_port_self (s : State) (i : PortId) (p : Port) : (s.setPort i p).port i = p := by
  simp [State.port]

theorem State.setPort_port (s : State) (i j : PortId) (p : Port) :
    (s.setPort i p).port j = if j = i then p else s.port j := by
  simp [State.port, Ports.get_set]

theorem compose_getLsbD (p : Port) (b : Nat) :
    (compose p).getLsbD b =
      (p.physicalMask.getLsbD b &&
        (if p.direction.getLsbD b then p.outputLatch.getLsbD b else p.lastSampledInput.getLsbD b)) := by
  by_cases hb : b < 8
  · simp only [compose, BitVec.getLsbD_and, BitVec.getLsbD_or, BitVec.getLsbD_not, hb, decide_true, Bool.true_and]
    cases p.direction.getLsbD b <;> cases p.outputLatch.getLsbD b <;> cases p.lastSampledInput.getLsbD b <;>
      cases p.physicalMask.getLsbD b <;> rfl
  · have h8 : 8 ≤ b := Nat.le_of_not_lt hb
    simp [BitVec.getLsbD_of_ge _ _ h8]

theorem samplePins_lastSampledInput_getLsbD (p : Port) (b : Nat) (hb : b < 8) :
    (samplePins true p).lastSampledInput.getLsbD b =
      (p.pinIn.getLsbD b && !p.direction.getLsbD b && p.physicalMask.getLsbD b) := by
  simp only [samplePins, if_true, BitVec.getLsbD_and, BitVec.getLsbD_not, hb, decide_true, Bool.true_and]
  cases p.pinIn.getLsbD b <;> cases p.direction.getLsbD b <;> cases p.physicalMask.getLsbD b <;> rfl

@[simp] theorem samplePins_false (p : Port) : samplePins false p = p := rfl

@[simp] theorem samplePins_physicalMask (c : Bool) (p : Port) : (samplePins c p).physicalMask = p.physicalMask := by
  cases c <;> rfl
@[simp] theorem samplePins_direction (c : Bool) (p : Port) : (samplePins c p).direction = p.direction := by
  cases c <;> rfl
@[simp] theorem samplePins_outputLatch (c : Bool) (p : Port) : (samplePins c p).outputLatch = p.outputLatch := by
  cases c <;> rfl
@[simp] theorem samplePins_pinIn (c : Bool) (p : Port) : (samplePins c p).pinIn = p.pinIn := by
  cases c <;> rfl

/-- All a port write of the latch can do (R123). -/
theorem writeLatch_eq (i : PortId) (data : Byte) (s : State) :
    writeLatch i data s =
      { s with
        ports := s.ports.set i { s.port i with outputLatch := data &&& (s.port i).physicalMask }
        trace := s.trace ++
          (if ((data &&& (s.port i).physicalMask) ^^^ (s.port i).outputLatch) &&& (s.port i).direction ≠ 0#8 then
            [.portOut i (compose { s.port i with outputLatch := data &&& (s.port i).physicalMask })
              (s.port i).direction] else []) } := by
  unfold writeLatch
  by_cases h : ((data &&& (s.port i).physicalMask) ^^^ (s.port i).outputLatch) &&& (s.port i).direction = 0#8
  · simp [h, State.setPort]
  · have h0 : (data &&& (s.port i).physicalMask) ^^^ (s.port i).outputLatch ≠ 0#8 := by
      intro hz; apply h; simp [hz]
    simp only [h, h0, ne_eq, not_false_eq_true, and_self, if_true]
    rfl

/-- All a port write of the direction can do (R126). -/
theorem writeDirection_eq (i : PortId) (data : Byte) (s : State) :
    writeDirection i data s =
      { s with
        ports := s.ports.set i { s.port i with direction := data &&& (s.port i).physicalMask }
        trace := s.trace ++
          (if data &&& (s.port i).physicalMask ≠ (s.port i).direction then
            [.portOut i (compose { s.port i with direction := data &&& (s.port i).physicalMask })
              (data &&& (s.port i).physicalMask)] else []) } := by
  unfold writeDirection
  by_cases h : data &&& (s.port i).physicalMask = (s.port i).direction
  · have hp : s.ports.set i { s.port i with direction := (s.port i).direction } = s.ports := Ports.set_get_self ..
    simp only [h, ne_eq, not_true_eq_false, if_false, List.append_nil, hp]
  · simp only [h, ne_eq, not_false_eq_true, if_true]
    rfl

@[simp] theorem writeLatch_cfg (i : PortId) (d : Byte) (s : State) : (writeLatch i d s).cfg = s.cfg := by
  rw [writeLatch_eq]
@[simp] theorem writeLatch_timer (i : PortId) (d : Byte) (s : State) : (writeLatch i d s).timer = s.timer := by
  rw [writeLatch_eq]
@[simp] theorem writeLatch_pcop (i : PortId) (d : Byte) (s : State) : (writeLatch i d s).pcop = s.pcop := by
  rw [writeLatch_eq]
@[simp] theorem writeLatch_ncop (i : PortId) (d : Byte) (s : State) : (writeLatch i d s).ncop = s.ncop := by
  rw [writeLatch_eq]
@[simp] theorem writeLatch_pending (i : PortId) (d : Byte) (s : State) : (writeLatch i d s).pending = s.pending := by
  rw [writeLatch_eq]
@[simp] theorem writeLatch_resetPending (i : PortId) (d : Byte) (s : State) : (writeLatch i d s).resetPending = s.resetPending := by
  rw [writeLatch_eq]
@[simp] theorem writeLatch_phase (i : PortId) (d : Byte) (s : State) : (writeLatch i d s).phase = s.phase := by
  rw [writeLatch_eq]
@[simp] theorem writeLatch_results (i : PortId) (d : Byte) (s : State) : (writeLatch i d s).results = s.results := by
  rw [writeLatch_eq]
@[simp] theorem writeLatch_draws (i : PortId) (d : Byte) (s : State) : (writeLatch i d s).draws = s.draws := by
  rw [writeLatch_eq]
@[simp] theorem writeLatch_ops (i : PortId) (d : Byte) (s : State) : (writeLatch i d s).ops = s.ops := by
  rw [writeLatch_eq]
@[simp] theorem writeDirection_cfg (i : PortId) (d : Byte) (s : State) : (writeDirection i d s).cfg = s.cfg := by
  rw [writeDirection_eq]
@[simp] theorem writeDirection_timer (i : PortId) (d : Byte) (s : State) : (writeDirection i d s).timer = s.timer := by
  rw [writeDirection_eq]
@[simp] theorem writeDirection_pcop (i : PortId) (d : Byte) (s : State) : (writeDirection i d s).pcop = s.pcop := by
  rw [writeDirection_eq]
@[simp] theorem writeDirection_ncop (i : PortId) (d : Byte) (s : State) : (writeDirection i d s).ncop = s.ncop := by
  rw [writeDirection_eq]
@[simp] theorem writeDirection_pending (i : PortId) (d : Byte) (s : State) : (writeDirection i d s).pending = s.pending := by
  rw [writeDirection_eq]
@[simp] theorem writeDirection_resetPending (i : PortId) (d : Byte) (s : State) : (writeDirection i d s).resetPending = s.resetPending := by
  rw [writeDirection_eq]
@[simp] theorem writeDirection_phase (i : PortId) (d : Byte) (s : State) : (writeDirection i d s).phase = s.phase := by
  rw [writeDirection_eq]
@[simp] theorem writeDirection_results (i : PortId) (d : Byte) (s : State) : (writeDirection i d s).results = s.results := by
  rw [writeDirection_eq]
@[simp] theorem writeDirection_draws (i : PortId) (d : Byte) (s : State) : (writeDirection i d s).draws = s.draws := by
  rw [writeDirection_eq]
@[simp] theorem writeDirection_ops (i : PortId) (d : Byte) (s : State) : (writeDirection i d s).ops = s.ops := by
  rw [writeDirection_eq]

/-- All an operational port read can do (R122). -/
theorem readPort_eq (i : PortId) (s : State) :
    readPort i s =
      { s with
        ports := s.ports.set i (samplePins (s.cfg.inConn.get i) (s.port i))
        results := s.results ++ [.data (compose (samplePins (s.cfg.inConn.get i) (s.port i)))] } := rfl

end Machine

end Sys2Proof
end

