-- ==== Sys2Proof/Laws/Ops.lean ====
section
/-! SUPPORT. What each shared operation can do, said once: the legality test, the burns, the service entry, the device
reset. -/

namespace Sys2Proof.Machine

/-! ### Legality -/

theorem whenRunning_of_running {s : State} (h : s.Running) (k : Outcome) : whenRunning s k = k := by
  simp only [whenRunning, h.1, h.2]

theorem whenRunning_beforeBoot {s : State} (h : s.phase ≠ .running) (k : Outcome) :
    whenRunning s k = .refused (.operation .beforeBoot) := by
  unfold whenRunning
  split <;> simp_all

theorem whenRunning_resetOutstanding {s : State} (h : s.phase = .running) (hr : s.resetPending = true) (k : Outcome) :
    whenRunning s k = .refused (.operation .resetOutstanding) := by
  simp only [whenRunning, h, hr]

/-- A guarded operation that answers a next state ran, with no reset request outstanding (R258). -/
theorem whenRunning_next {s t : State} {k : Outcome} (h : whenRunning s k = .next t) : s.Running ∧ k = .next t := by
  unfold whenRunning at h
  split at h <;> first | exact ⟨⟨‹_›, ‹_›⟩, h⟩ | cases h

/-- A guarded operation is fatal only where its body is. -/
theorem whenRunning_fault {s : State} {k : Outcome} {r : Fault} (h : whenRunning s k = .fault r) :
    s.Running ∧ k = .fault r := by
  unfold whenRunning at h
  split at h <;> first | exact ⟨⟨‹_›, ‹_›⟩, h⟩ | cases h

/-! ### Burns -/

/-- The flags of `tsr` after a burn (R180 steps 6 and 7). -/
def burnedTsr (n : Nat) (t : Timer) : Byte :=
  t.tsr ||| (if t.wraps n then 0x20#8 else 0#8) ||| (if t.compareHit n then 0x40#8 else 0#8)

/-- The compare-output event of a burn, if any (R180 step 7). -/
def burnedTcmp (n : Nat) (t : Timer) : List Event :=
  if t.compareHit n ∧ t.compareInhibited = false then [.tcmp (t.tcr.getLsbD 0)] else []

/-- All the timer's part of a burn can do (R180). -/
theorem timerBurn_eq (n : Nat) (s : State) :
    timerBurn n s =
      { s with
        timer :=
          { s.timer with
            counter := BitVec.ofNat 16 (s.timer.counter.toNat + (s.timer.prescaler.toNat + n) / 16)
            prescaler := BitVec.ofNat 4 (s.timer.prescaler.toNat + n)
            tsr := burnedTsr n s.timer }
        pending :=
          putBit s.pending s.cfg.nExt.val (decide (s.timer.tcr &&& burnedTsr n s.timer &&& 0xE0#8 ≠ 0#8))
        trace := s.trace ++ burnedTcmp n s.timer } := by
  have hpre : s.timer.counter.toNat < 0x10000 := s.timer.counter.isLt
  by_cases hw : s.timer.wraps n <;> by_cases hc : s.timer.compareHit n <;>
    cases hi : s.timer.compareInhibited <;>
    simp [timerBurn, burnedTsr, burnedTcmp, Timer.compareHit, Timer.wraps, compareMatch, hw, hc, hi, hpre, State.recomputeTimerPending,
      timerEvent_eq, State.setTimer, State.setFlag, State.emit, TimerFlag.mask]

/-- All the programmable COP's part of a burn can do (R212). -/
theorem pcopBurn_eq (n : Nat) (s : State) :
    pcopBurn n s =
      { s with
        pcop :=
          { s.pcop with
            counter := BitVec.ofNat 21 (s.pcop.counter.toNat + n)
            copcr := if pcopTimesOut n s.pcop then s.pcop.copcr ||| 0x10#8 else s.pcop.copcr }
        resetPending := s.resetPending || pcopTimesOut n s.pcop
        trace := s.trace ++ (if pcopTimesOut n s.pcop then [.resetReq .pcop] else []) } := by
  cases h : pcopTimesOut n s.pcop <;>
    simp [pcopBurn, h, requestReset, State.setPcop, State.emit, copfMask]

/-- Whether a burn completes the period of the non-programmable COP (R222). -/
def ncopTimesOut (n : Nat) (c : Ncop) : Bool := c.enabled && decide (2 ^ 17 ≤ c.counter.toNat + n)

/-- All the non-programmable COP's part of a burn can do (R222). -/
theorem ncopBurn_eq (n : Nat) (s : State) :
    ncopBurn n s =
      { s with
        ncop := { s.ncop with counter := BitVec.ofNat 17 (s.ncop.counter.toNat + n) }
        resetPending := s.resetPending || ncopTimesOut n s.ncop
        trace := s.trace ++ (if ncopTimesOut n s.ncop then [.resetReq .ncop] else []) } := by
  unfold ncopBurn ncopTimesOut
  generalize 2 ^ 17 = period
  by_cases h : period ≤ s.ncop.counter.toNat + n <;> cases he : s.ncop.enabled <;>
    simp [h, he, requestReset, State.setNcop, State.emit]

/-- All a whole burn can do (R251). -/
theorem burnAll_eq (n : Nat) (s : State) :
    burnAll n s =
      { s with
        timer := (timerBurn n s).timer
        pcop := if s.cfg.hasPcop then (pcopBurn n s).pcop else s.pcop
        ncop := if s.cfg.hasNcop then (ncopBurn n s).ncop else s.ncop
        pending := (timerBurn n s).pending
        resetPending :=
          s.resetPending || (s.cfg.hasPcop && pcopTimesOut n s.pcop) || (s.cfg.hasNcop && ncopTimesOut n s.ncop)
        trace := s.trace ++ burnedTcmp n s.timer
          ++ (if s.cfg.hasPcop && pcopTimesOut n s.pcop then [.resetReq .pcop] else [])
          ++ (if s.cfg.hasNcop && ncopTimesOut n s.ncop then [.resetReq .ncop] else []) } := by
  cases hp : s.cfg.hasPcop <;> cases hn : s.cfg.hasNcop <;>
    simp [burnAll, hp, hn, timerBurn_eq, pcopBurn_eq, ncopBurn_eq]

@[simp] theorem burnAll_cfg (n : Nat) (s : State) : (burnAll n s).cfg = s.cfg := by simp [burnAll_eq]
@[simp] theorem burnAll_ports (n : Nat) (s : State) : (burnAll n s).ports = s.ports := by simp [burnAll_eq]
@[simp] theorem burnAll_phase (n : Nat) (s : State) : (burnAll n s).phase = s.phase := by simp [burnAll_eq]
@[simp] theorem burnAll_results (n : Nat) (s : State) : (burnAll n s).results = s.results := by simp [burnAll_eq]
@[simp] theorem burnAll_draws (n : Nat) (s : State) : (burnAll n s).draws = s.draws := by simp [burnAll_eq]
@[simp] theorem burnAll_ops (n : Nat) (s : State) : (burnAll n s).ops = s.ops := by simp [burnAll_eq]

@[simp] theorem burnAll_timer (n : Nat) (s : State) :
    (burnAll n s).timer =
      { s.timer with
        counter := BitVec.ofNat 16 (s.timer.counter.toNat + (s.timer.prescaler.toNat + n) / 16)
        prescaler := BitVec.ofNat 4 (s.timer.prescaler.toNat + n)
        tsr := burnedTsr n s.timer } := by
  simp [burnAll_eq, timerBurn_eq]

@[simp] theorem burnAll_pending (n : Nat) (s : State) :
    (burnAll n s).pending =
      putBit s.pending s.cfg.nExt.val (decide (s.timer.tcr &&& burnedTsr n s.timer &&& 0xE0#8 ≠ 0#8)) := by
  simp [burnAll_eq, timerBurn_eq]

@[simp] theorem burnAll_pcop (n : Nat) (s : State) :
    (burnAll n s).pcop =
      if s.cfg.hasPcop then
        { s.pcop with
          counter := BitVec.ofNat 21 (s.pcop.counter.toNat + n)
          copcr := if pcopTimesOut n s.pcop then s.pcop.copcr ||| 0x10#8 else s.pcop.copcr }
      else s.pcop := by
  simp [burnAll_eq, pcopBurn_eq]

@[simp] theorem burnAll_ncop (n : Nat) (s : State) :
    (burnAll n s).ncop =
      if s.cfg.hasNcop then { s.ncop with counter := BitVec.ofNat 17 (s.ncop.counter.toNat + n) } else s.ncop := by
  simp [burnAll_eq, ncopBurn_eq]

@[simp] theorem burnAll_resetPending (n : Nat) (s : State) :
    (burnAll n s).resetPending =
      (s.resetPending || (s.cfg.hasPcop && pcopTimesOut n s.pcop) || (s.cfg.hasNcop && ncopTimesOut n s.ncop)) := by
  simp [burnAll_eq]

@[simp] theorem burnAll_trace (n : Nat) (s : State) :
    (burnAll n s).trace = s.trace ++ burnedTcmp n s.timer
      ++ (if s.cfg.hasPcop && pcopTimesOut n s.pcop then [.resetReq .pcop] else [])
      ++ (if s.cfg.hasNcop && ncopTimesOut n s.ncop then [.resetReq .ncop] else []) := by
  simp [burnAll_eq]

/-- The bits of `tsr` after a burn. -/
theorem burnedTsr_getLsbD (n : Nat) (t : Timer) (b : Nat) :
    (burnedTsr n t).getLsbD b =
      (t.tsr.getLsbD b || (decide (b = 5) && decide (t.wraps n)) || (decide (b = 6) && decide (t.compareHit n))) := by
  have h20 : (0x20#8).getLsbD b = decide (b = 5) := by
    by_cases hb : b < 8
    · interval_cases b <;> rfl
    · rw [BitVec.getLsbD_of_ge _ _ (Nat.le_of_not_lt hb)]; simp; omega
  have h40 : (0x40#8).getLsbD b = decide (b = 6) := by
    by_cases hb : b < 8
    · interval_cases b <;> rfl
    · rw [BitVec.getLsbD_of_ge _ _ (Nat.le_of_not_lt hb)]; simp; omega
  have hif : ∀ (p : Prop) [Decidable p] (x : Byte) (k : Nat), x.getLsbD b = decide (b = k) →
      (if p then x else 0#8).getLsbD b = (decide (b = k) && decide p) := by
    intro p _ x k hx
    by_cases hp : p <;> simp [hp, hx]
  rw [burnedTsr, BitVec.getLsbD_or, BitVec.getLsbD_or, hif _ _ _ h20, hif _ _ _ h40]

/-! ### The compare output pin -/

theorem lastTcmp_append (l m : List Event) : lastTcmp (l ++ m) = (lastTcmp m).or (lastTcmp l) := by
  induction l with
  | nil => simp [lastTcmp]
  | cons e l ih => cases e <;> simp [lastTcmp, ih]

/-- Only the compare-output events count. -/
theorem lastTcmp_tcmpEvents (l : List Event) : lastTcmp (tcmpEvents l) = lastTcmp l := by
  induction l with
  | nil => rfl
  | cons e l ih =>
    rw [tcmpEvents] at ih
    cases e <;> simp [tcmpEvents, lastTcmp, ih]

theorem lastTcmp_eq_none (l : List Event) : lastTcmp l = none ↔ tcmpEvents l = [] := by
  induction l with
  | nil => simp [lastTcmp, tcmpEvents]
  | cons e l ih =>
    rw [tcmpEvents] at ih
    cases e <;> simp only [tcmpEvents, lastTcmp, ih, List.filter_cons] <;> simp

/-- All that decides the pin's level once there has been a `Tcmp` (R51). -/
theorem comparePin_of_lastTcmp {s : State} {level : Bool} (h : lastTcmp s.trace = some level) : comparePin s = level := by
  simp [comparePin, h]

/-- A burn that emits the compare output puts its pin at OLVL; any other leaves the last level (R180 step 7, R51). -/
theorem lastTcmp_burnAll (n : Nat) (s : State) :
    lastTcmp (burnAll n s).trace =
      if s.timer.compareHit n ∧ s.timer.compareInhibited = false then some (s.timer.tcr.getLsbD 0) else lastTcmp s.trace := by
  have h : lastTcmp (burnAll n s).trace = (lastTcmp (burnedTcmp n s.timer)).or (lastTcmp s.trace) := by
    rw [burnAll_trace]
    split <;> split <;> simp [lastTcmp_append, lastTcmp]
  rw [h, burnedTcmp]
  split <;> rfl

/-! ### Service entry -/

/-- A service entry that answers a next state picked a pending source, entered it and burned the acknowledge cycles
(R235). -/
theorem serviceEntry_next {s t : State} (h : serviceEntry s = .next t) :
    ∃ src, pickSource s.cfg s.pending = some src
      ∧ t = (burnAll s.cfg.intAckCycles.toNat (enterService src s)).respond .done := by
  unfold serviceEntry at h
  split at h
  · cases h
  · split at h
    · cases h
    · next src hp => exact ⟨src, hp, by simpa using h.symm⟩

/-- A service entry is fatal exactly when no known source is pending, where PRIORITY orders the known sources (R238). -/
theorem pickSource_isSome {cfg : Config} {pending : Byte} (hcfg : cfg.WellFormed)
    (h : pending &&& knownMask cfg ≠ 0#8) : (pickSource cfg pending).isSome := by
  obtain ⟨k, hk, hb⟩ : ∃ k < 8, (pending &&& knownMask cfg).getLsbD k = true := by
    by_contra hc
    apply h
    apply BitVec.eq_of_getLsbD_eq
    intro i hi
    simpa using fun hp => hc ⟨i, hi, hp⟩
  rw [BitVec.getLsbD_and, knownMask_getLsbD _ _ hk, Bool.and_eq_true, decide_eq_true_eq] at hb
  rw [pickSource, List.find?_isSome]
  by_cases hx : k = cfg.nExt.val
  · exact ⟨.timer, hcfg.2.1, by simp [sourceBit, ← hx, hb.1]⟩
  · exact ⟨.ext ⟨k, hk⟩, (hcfg.2.2 _).2 (by rw [Fin.lt_def]; simp; omega), by simp [sourceBit, hb.1]⟩

/-! ### Device reset -/

/-- All a device reset can do (R302): no enable survives it, so no interrupt is pending. -/
theorem deviceReset_eq (fuse : Bool) (s : State) :
    deviceReset fuse s =
      { s with
        ports := s.ports.map fun p => { p with direction := 0 }
        timer := resetTimer s.cfg s.timer
        pcop := if s.cfg.hasPcop then resetPcop s.pcop else s.pcop
        ncop := if s.cfg.hasNcop then { counter := 0, enabled := fuse } else s.ncop
        pending := 0#8
        phase := .running
        resetPending := false } := by
  have h0 : ∀ x y : Byte, x &&& 0x02#8 &&& y &&& 0xE0#8 = 0#8 := by
    intro x y
    rw [BitVec.and_assoc, BitVec.and_assoc, BitVec.and_comm y, ← BitVec.and_assoc 0x02#8]
    simp
  have hp : ∀ n : Fin 8, putBit 0#8 n.val false = 0#8 := by decide
  simp [deviceReset, State.recomputeTimerPending, timerEvent_eq, resetTimer, iedgMask, h0, hp]

end Sys2Proof.Machine
end

