-- ==== Sys2Proof/Laws/PerInstr.lean ====
section
/-! SUPPORT. A statement for every operation: its word has no bit outside the format of its kind (30_encoding.md R90). -/

namespace Sys2Proof.Laws

theorem formatBits_of_kind {w : OpWord} {k : BitVec 4} (h : kindOf w = k) (hz : w &&& mustBeZero k = 0#24) :
    w &&& mustBeZero (kindOf w) = 0#24 := by
  rw [h, hz]

end Sys2Proof.Laws

namespace Sys2Proof.Laws.FormatBits

/-- The word of an operation has no must-be-zero bit set. -/
def Statement (i : Instr) : Prop := encode i &&& mustBeZero (kindOf (encode i)) = 0#24

theorem rdPorta : Statement .rdPorta :=
  formatBits_of_kind (kindOf_busWord _ _ _) (readWord_mustBeZero 0x00#5)
theorem wrPorta (data : Byte) : Statement (.wrPorta data) :=
  formatBits_of_kind (kindOf_busWord _ _ _) (writeWord_mustBeZero 0x00#5 data)
theorem peekPorta : Statement .peekPorta :=
  formatBits_of_kind (kindOf_busWord _ _ _) (inspectWord_mustBeZero 0x00#5)
theorem rdPortb : Statement .rdPortb :=
  formatBits_of_kind (kindOf_busWord _ _ _) (readWord_mustBeZero 0x01#5)
theorem wrPortb (data : Byte) : Statement (.wrPortb data) :=
  formatBits_of_kind (kindOf_busWord _ _ _) (writeWord_mustBeZero 0x01#5 data)
theorem peekPortb : Statement .peekPortb :=
  formatBits_of_kind (kindOf_busWord _ _ _) (inspectWord_mustBeZero 0x01#5)
theorem rdPortc : Statement .rdPortc :=
  formatBits_of_kind (kindOf_busWord _ _ _) (readWord_mustBeZero 0x02#5)
theorem wrPortc (data : Byte) : Statement (.wrPortc data) :=
  formatBits_of_kind (kindOf_busWord _ _ _) (writeWord_mustBeZero 0x02#5 data)
theorem peekPortc : Statement .peekPortc :=
  formatBits_of_kind (kindOf_busWord _ _ _) (inspectWord_mustBeZero 0x02#5)
theorem rdPortd : Statement .rdPortd :=
  formatBits_of_kind (kindOf_busWord _ _ _) (readWord_mustBeZero 0x03#5)
theorem wrPortd (data : Byte) : Statement (.wrPortd data) :=
  formatBits_of_kind (kindOf_busWord _ _ _) (writeWord_mustBeZero 0x03#5 data)
theorem peekPortd : Statement .peekPortd :=
  formatBits_of_kind (kindOf_busWord _ _ _) (inspectWord_mustBeZero 0x03#5)
theorem rdDdra : Statement .rdDdra :=
  formatBits_of_kind (kindOf_busWord _ _ _) (readWord_mustBeZero 0x04#5)
theorem wrDdra (data : Byte) : Statement (.wrDdra data) :=
  formatBits_of_kind (kindOf_busWord _ _ _) (writeWord_mustBeZero 0x04#5 data)
theorem peekDdra : Statement .peekDdra :=
  formatBits_of_kind (kindOf_busWord _ _ _) (inspectWord_mustBeZero 0x04#5)
theorem rdDdrb : Statement .rdDdrb :=
  formatBits_of_kind (kindOf_busWord _ _ _) (readWord_mustBeZero 0x05#5)
theorem wrDdrb (data : Byte) : Statement (.wrDdrb data) :=
  formatBits_of_kind (kindOf_busWord _ _ _) (writeWord_mustBeZero 0x05#5 data)
theorem peekDdrb : Statement .peekDdrb :=
  formatBits_of_kind (kindOf_busWord _ _ _) (inspectWord_mustBeZero 0x05#5)
theorem rdDdrc : Statement .rdDdrc :=
  formatBits_of_kind (kindOf_busWord _ _ _) (readWord_mustBeZero 0x06#5)
theorem wrDdrc (data : Byte) : Statement (.wrDdrc data) :=
  formatBits_of_kind (kindOf_busWord _ _ _) (writeWord_mustBeZero 0x06#5 data)
theorem peekDdrc : Statement .peekDdrc :=
  formatBits_of_kind (kindOf_busWord _ _ _) (inspectWord_mustBeZero 0x06#5)
theorem rdTcr : Statement .rdTcr :=
  formatBits_of_kind (kindOf_busWord _ _ _) (readWord_mustBeZero 0x12#5)
theorem wrTcr (data : Byte) : Statement (.wrTcr data) :=
  formatBits_of_kind (kindOf_busWord _ _ _) (writeWord_mustBeZero 0x12#5 data)
theorem peekTcr : Statement .peekTcr :=
  formatBits_of_kind (kindOf_busWord _ _ _) (inspectWord_mustBeZero 0x12#5)
theorem rdTsr : Statement .rdTsr :=
  formatBits_of_kind (kindOf_busWord _ _ _) (readWord_mustBeZero 0x13#5)
theorem wrTsr (data : Byte) : Statement (.wrTsr data) :=
  formatBits_of_kind (kindOf_busWord _ _ _) (writeWord_mustBeZero 0x13#5 data)
theorem peekTsr : Statement .peekTsr :=
  formatBits_of_kind (kindOf_busWord _ _ _) (inspectWord_mustBeZero 0x13#5)
theorem rdIcrh : Statement .rdIcrh :=
  formatBits_of_kind (kindOf_busWord _ _ _) (readWord_mustBeZero 0x14#5)
theorem wrIcrh (data : Byte) : Statement (.wrIcrh data) :=
  formatBits_of_kind (kindOf_busWord _ _ _) (writeWord_mustBeZero 0x14#5 data)
theorem peekIcrh : Statement .peekIcrh :=
  formatBits_of_kind (kindOf_busWord _ _ _) (inspectWord_mustBeZero 0x14#5)
theorem rdIcrl : Statement .rdIcrl :=
  formatBits_of_kind (kindOf_busWord _ _ _) (readWord_mustBeZero 0x15#5)
theorem wrIcrl (data : Byte) : Statement (.wrIcrl data) :=
  formatBits_of_kind (kindOf_busWord _ _ _) (writeWord_mustBeZero 0x15#5 data)
theorem peekIcrl : Statement .peekIcrl :=
  formatBits_of_kind (kindOf_busWord _ _ _) (inspectWord_mustBeZero 0x15#5)
theorem rdOcrh : Statement .rdOcrh :=
  formatBits_of_kind (kindOf_busWord _ _ _) (readWord_mustBeZero 0x16#5)
theorem wrOcrh (data : Byte) : Statement (.wrOcrh data) :=
  formatBits_of_kind (kindOf_busWord _ _ _) (writeWord_mustBeZero 0x16#5 data)
theorem peekOcrh : Statement .peekOcrh :=
  formatBits_of_kind (kindOf_busWord _ _ _) (inspectWord_mustBeZero 0x16#5)
theorem rdOcrl : Statement .rdOcrl :=
  formatBits_of_kind (kindOf_busWord _ _ _) (readWord_mustBeZero 0x17#5)
theorem wrOcrl (data : Byte) : Statement (.wrOcrl data) :=
  formatBits_of_kind (kindOf_busWord _ _ _) (writeWord_mustBeZero 0x17#5 data)
theorem peekOcrl : Statement .peekOcrl :=
  formatBits_of_kind (kindOf_busWord _ _ _) (inspectWord_mustBeZero 0x17#5)
theorem rdTrh : Statement .rdTrh :=
  formatBits_of_kind (kindOf_busWord _ _ _) (readWord_mustBeZero 0x18#5)
theorem wrTrh (data : Byte) : Statement (.wrTrh data) :=
  formatBits_of_kind (kindOf_busWord _ _ _) (writeWord_mustBeZero 0x18#5 data)
theorem peekTrh : Statement .peekTrh :=
  formatBits_of_kind (kindOf_busWord _ _ _) (inspectWord_mustBeZero 0x18#5)
theorem rdTrl : Statement .rdTrl :=
  formatBits_of_kind (kindOf_busWord _ _ _) (readWord_mustBeZero 0x19#5)
theorem wrTrl (data : Byte) : Statement (.wrTrl data) :=
  formatBits_of_kind (kindOf_busWord _ _ _) (writeWord_mustBeZero 0x19#5 data)
theorem peekTrl : Statement .peekTrl :=
  formatBits_of_kind (kindOf_busWord _ _ _) (inspectWord_mustBeZero 0x19#5)
theorem rdAtrh : Statement .rdAtrh :=
  formatBits_of_kind (kindOf_busWord _ _ _) (readWord_mustBeZero 0x1A#5)
theorem wrAtrh (data : Byte) : Statement (.wrAtrh data) :=
  formatBits_of_kind (kindOf_busWord _ _ _) (writeWord_mustBeZero 0x1A#5 data)
theorem peekAtrh : Statement .peekAtrh :=
  formatBits_of_kind (kindOf_busWord _ _ _) (inspectWord_mustBeZero 0x1A#5)
theorem rdAtrl : Statement .rdAtrl :=
  formatBits_of_kind (kindOf_busWord _ _ _) (readWord_mustBeZero 0x1B#5)
theorem wrAtrl (data : Byte) : Statement (.wrAtrl data) :=
  formatBits_of_kind (kindOf_busWord _ _ _) (writeWord_mustBeZero 0x1B#5 data)
theorem peekAtrl : Statement .peekAtrl :=
  formatBits_of_kind (kindOf_busWord _ _ _) (inspectWord_mustBeZero 0x1B#5)
theorem rdCoprst : Statement .rdCoprst :=
  formatBits_of_kind (kindOf_busWord _ _ _) (readWord_mustBeZero 0x1D#5)
theorem wrCoprst (data : Byte) : Statement (.wrCoprst data) :=
  formatBits_of_kind (kindOf_busWord _ _ _) (writeWord_mustBeZero 0x1D#5 data)
theorem peekCoprst : Statement .peekCoprst :=
  formatBits_of_kind (kindOf_busWord _ _ _) (inspectWord_mustBeZero 0x1D#5)
theorem rdCopcr : Statement .rdCopcr :=
  formatBits_of_kind (kindOf_busWord _ _ _) (readWord_mustBeZero 0x1E#5)
theorem wrCopcr (data : Byte) : Statement (.wrCopcr data) :=
  formatBits_of_kind (kindOf_busWord _ _ _) (writeWord_mustBeZero 0x1E#5 data)
theorem peekCopcr : Statement .peekCopcr :=
  formatBits_of_kind (kindOf_busWord _ _ _) (inspectWord_mustBeZero 0x1E#5)
theorem rdUnmapped (off : BitVec 5) : Statement (.rdUnmapped off) :=
  formatBits_of_kind (kindOf_busWord _ _ _) (readWord_mustBeZero off)
theorem wrUnmapped (off : BitVec 5) (data : Byte) : Statement (.wrUnmapped off data) :=
  formatBits_of_kind (kindOf_busWord _ _ _) (writeWord_mustBeZero off data)
theorem peekUnmapped (off : BitVec 5) : Statement (.peekUnmapped off) :=
  formatBits_of_kind (kindOf_busWord _ _ _) (inspectWord_mustBeZero off)
theorem burn (n : Half) : Statement (.burn n) :=
  formatBits_of_kind (kindOf_cyclesWord _) (cyclesWord_mustBeZero n)
theorem tcap (rising : Bool) : Statement (.tcap rising) :=
  formatBits_of_kind (kindOf_bitWord _ _) (captureWord_mustBeZero rising)
theorem irq (line : Fin 8) : Statement (.irq line) :=
  formatBits_of_kind (kindOf_lineWord _) (lineWord_mustBeZero line)
theorem reset (fuse : Bool) : Statement (.reset fuse) :=
  formatBits_of_kind (kindOf_bitWord _ _) (resetWord_mustBeZero fuse)
theorem service : Statement .service :=
  formatBits_of_kind (kindOf_plainWord _) (by decide)
theorem pin (idx : PortId) (v : Byte) : Statement (.pin idx v) :=
  formatBits_of_kind (kindOf_portWord _ _ _) (pinWord_mustBeZero idx v)
theorem wrcopr (data : Byte) : Statement (.wrcopr data) :=
  formatBits_of_kind (kindOf_dataWord _) (dataWord_mustBeZero data)
theorem cfgmask (idx : PortId) (v : Byte) : Statement (.cfgmask idx v) :=
  formatBits_of_kind (kindOf_portWord _ _ _) (maskWord_mustBeZero idx v)
theorem start : Statement .start :=
  formatBits_of_kind (kindOf_plainWord _) (by decide)
theorem exportState : Statement .exportState :=
  formatBits_of_kind (kindOf_plainWord _) (by decide)

end Sys2Proof.Laws.FormatBits
end

