-- ==== Sys2Proof/Laws/Step.lean ====
section
/-! SUPPORT. What one step is, by the next operation word and by the outcome of its operation. -/

namespace Sys2Proof.Machine

theorem step_nil {s : State} (h : s.ops = []) : step s = .next s := by
  simp [step, h, idle]

theorem step_cons {s : State} {w : OpWord} {rest : List OpWord} (h : s.ops = w :: rest) :
    step s = applyWord w { s with ops := rest } := by
  simp [step, h]

theorem applyWord_ok {w : OpWord} {s : State} {i : Instr} (h : decode s.cfg w = .ok i) :
    applyWord w s = settle s (exec i s) := by
  simp [applyWord, h]

theorem applyWord_error {w : OpWord} {s : State} {why : Reject} (h : decode s.cfg w = .error why) :
    applyWord w s = .next (s.respond (.refused (.invalidWord why))) := by
  simp [applyWord, h, settle]

/-- A settled outcome is a next state in two ways: the operation was applied, or it was refused and the state is
unchanged but for the response (R259). -/
theorem settle_next {s t : State} {o : Outcome} (h : settle s o = .next t) :
    o = .next t ∨ ∃ why, o = .refused (.operation why) ∧ t = s.respond (.refused why) := by
  unfold settle at h
  split at h
  · exact .inr ⟨_, rfl, by simpa using h.symm⟩
  · cases h
  · cases h
  · exact .inl h

/-- A step that answers a next state did nothing, or passed over a word, or applied one operation. -/
theorem step_next {s t : State} (h : step s = .next t) :
    (s.ops = [] ∧ t = s) ∨
    (∃ w rest why, s.ops = w :: rest ∧ t = { s with ops := rest }.respond (.refused why)) ∨
    (∃ w rest i, s.ops = w :: rest ∧ decode s.cfg w = .ok i ∧ exec i { s with ops := rest } = .next t) := by
  cases ho : s.ops with
  | nil => rw [step_nil ho] at h; exact .inl ⟨rfl, by simpa using h.symm⟩
  | cons w rest =>
    rw [step_cons ho] at h
    cases hd : decode s.cfg w with
    | error why =>
      rw [applyWord_error (by exact hd)] at h
      exact .inr (.inl ⟨w, rest, _, rfl, by simpa using h.symm⟩)
    | ok i =>
      rw [applyWord_ok (by exact hd)] at h
      rcases settle_next h with h | ⟨why, -, h⟩
      · exact .inr (.inr ⟨w, rest, i, rfl, hd, h⟩)
      · exact .inr (.inl ⟨w, rest, why, rfl, h⟩)

theorem step_withFetchWord (s : State) (nbits w : Nat) :
    step (s.withFetchWord nbits w) = applyWord (tableWord nbits w) s := by
  simp [step, State.withFetchWord, pushWord]

end Sys2Proof.Machine
end

