-- ==== Sys2Proof/Tests/Slice0.lean ====
section
/-! SUPPORT. Tests: the checks on ill-formed terms, words written out bit by bit from the encodings, single steps whose
expected results are the spec's own vectors (95_test_vectors.md), and for every obligation with hypotheses a state and
operands that meet them. -/

namespace Sys2Proof.Tests

open Sys2Proof.Machine

/-! ### A small configuration and state -/

/-- The default test configuration (T401) with arbitrary vector addresses. -/
def cfg : Config where
  inConn := ⟨true, true, true, true⟩
  hasPcop := true
  hasNcop := true
  nExt := 1
  priority := [.ext 0, .timer]
  vecTimer := 0x1FF8
  vecExt := Vector.replicate 8 0x1FFA
  vecSwi := 0x1FFC
  vecReset := 0x1FFE
  addrTop := 0x1FFF
  ncopClrBit := 0
  intAckCycles := 10
  counterInit := 0xFFFC
  pcopDisarmClear := 0x007FFF

/-- A variant with two lines, no input source on port C and no watchdog. -/
def small : Config :=
  { cfg with
    inConn := ⟨true, true, false, true⟩, hasPcop := false, hasNcop := false, nExt := 2
    priority := [.ext 0, .ext 1, .timer] }

/-- The power-on values of T401. -/
def zeros : PowerOn := { latch := ⟨0, 0, 0, 0⟩, input := ⟨0, 0, 0, 0⟩, pins := ⟨0, 0, 0, 0⟩, icr := 0, ocr := 0, iedg := false }

/-- The state S0 of T402. -/
def s0 : State := { State.powerOn cfg zeros with phase := .running }

/-- S0 of the small variant. -/
def s1 : State := { State.powerOn small zeros with phase := .running }

/-- S0 with another port A. -/
def withPortA (mask dir latch last pins : Byte) : State := { s0 with ports := { s0.ports with a := ⟨mask, dir, latch, last, pins⟩ } }

/-- S0 with another timer. -/
def withTimer (f : Timer → Timer) : State := { s0 with timer := f s0.timer }

/-- S0 with another programmable COP. -/
def withPcop (counter : BitVec 21) (stage copcr : Byte) : State := { s0 with pcop := ⟨counter, stage, copcr⟩ }

/-- S0 with a word waiting before another. -/
def waiting (w : OpWord) : State := { s0 with ops := [w, 0x700000#24] }

/-- What `f` shows of the state an operation leads to. -/
def after {α : Type} (i : Instr) (s : State) (f : State → α) : Option α :=
  match exec i s with
  | .next t => some (f t)
  | _ => none

/-- How an operation stops, if it does. -/
def stop (i : Instr) (s : State) : Option (Fault ⊕ Refusal) :=
  match exec i s with
  | .next _ => none
  | .fault r => some (.inl r)
  | .refused r => some (.inr r)

/-! ### Well-formedness -/

theorem test_wellFormed_pcop_absent :
    Instr.wellFormed small .rdCoprst = false ∧ Instr.wellFormed small (.wrCoprst 0x55) = false
      ∧ Instr.wellFormed small .peekCoprst = false ∧ Instr.wellFormed small .rdCopcr = false
      ∧ Instr.wellFormed small (.wrCopcr 4) = false ∧ Instr.wellFormed small .peekCopcr = false := by decide

theorem test_wellFormed_listed_offset :
    Instr.wellFormed cfg (.rdUnmapped 0x06) = false ∧ Instr.wellFormed cfg (.rdUnmapped 0x07) = true
      ∧ Instr.wellFormed cfg (.wrUnmapped 0x1D 0) = false ∧ Instr.wellFormed small (.wrUnmapped 0x1D 0) = true
      ∧ Instr.wellFormed cfg (.peekUnmapped 0x12) = false ∧ Instr.wellFormed cfg (.peekUnmapped 0x1C) = true := by decide

theorem test_wellFormed_line :
    Instr.wellFormed cfg (.irq 0) = true ∧ Instr.wellFormed cfg (.irq 1) = false := by decide

theorem test_wellFormed_priority :
    cfg.WellFormed ∧ ¬ Config.WellFormed { cfg with priority := [.timer] }
      ∧ ¬ Config.WellFormed { cfg with priority := [.ext 0] }
      ∧ ¬ Config.WellFormed { cfg with priority := [.ext 0, .timer, .ext 0] }
      ∧ ¬ Config.WellFormed { cfg with priority := [.ext 0, .ext 1, .timer] } := by decide

/-! ### Decoding: words written out from R93 to R98 -/

/-- Format B (R93), the offsets of R62. -/
theorem test_decode_ports :
    ∀ p ∈ ([
     (0b0000_0000000_00000_00000000#24, .rdPorta),
     (0b0001_0000000_00000_00000000#24, .wrPorta 0x00),
     (0b0010_0000000_00000_00000000#24, .peekPorta),
     (0b0000_0000000_00001_00000000#24, .rdPortb),
     (0b0001_0000000_00001_11111111#24, .wrPortb 0xFF),
     (0b0010_0000000_00001_00000000#24, .peekPortb),
     (0b0000_0000000_00010_00000000#24, .rdPortc),
     (0b0001_0000000_00010_01010101#24, .wrPortc 0x55),
     (0b0010_0000000_00010_00000000#24, .peekPortc),
     (0b0000_0000000_00011_00000000#24, .rdPortd),
     (0b0001_0000000_00011_10101010#24, .wrPortd 0xAA),
     (0b0010_0000000_00011_00000000#24, .peekPortd)] : List (OpWord × Instr)),
      (decode cfg p.1).toOption = some p.2 := by decide

/-- Format B (R93), the offsets of R62. -/
theorem test_decode_directions :
    ∀ p ∈ ([
     (0b0000_0000000_00100_00000000#24, .rdDdra),
     (0b0001_0000000_00100_00000001#24, .wrDdra 0x01),
     (0b0010_0000000_00100_00000000#24, .peekDdra),
     (0b0000_0000000_00101_00000000#24, .rdDdrb),
     (0b0001_0000000_00101_10000000#24, .wrDdrb 0x80),
     (0b0010_0000000_00101_00000000#24, .peekDdrb),
     (0b0000_0000000_00110_00000000#24, .rdDdrc),
     (0b0001_0000000_00110_01111111#24, .wrDdrc 0x7F),
     (0b0010_0000000_00110_00000000#24, .peekDdrc)] : List (OpWord × Instr)),
      (decode cfg p.1).toOption = some p.2 := by decide

/-- Format B (R93), the offsets of R62. -/
theorem test_decode_timer_control :
    ∀ p ∈ ([
     (0b0000_0000000_10010_00000000#24, .rdTcr),
     (0b0001_0000000_10010_00000000#24, .wrTcr 0x00),
     (0b0010_0000000_10010_00000000#24, .peekTcr),
     (0b0000_0000000_10011_00000000#24, .rdTsr),
     (0b0001_0000000_10011_11111111#24, .wrTsr 0xFF),
     (0b0010_0000000_10011_00000000#24, .peekTsr)] : List (OpWord × Instr)),
      (decode cfg p.1).toOption = some p.2 := by decide

/-- Format B (R93), the offsets of R62. -/
theorem test_decode_capture_and_compare :
    ∀ p ∈ ([
     (0b0000_0000000_10100_00000000#24, .rdIcrh),
     (0b0001_0000000_10100_01010101#24, .wrIcrh 0x55),
     (0b0010_0000000_10100_00000000#24, .peekIcrh),
     (0b0000_0000000_10101_00000000#24, .rdIcrl),
     (0b0001_0000000_10101_10101010#24, .wrIcrl 0xAA),
     (0b0010_0000000_10101_00000000#24, .peekIcrl),
     (0b0000_0000000_10110_00000000#24, .rdOcrh),
     (0b0001_0000000_10110_00000001#24, .wrOcrh 0x01),
     (0b0010_0000000_10110_00000000#24, .peekOcrh),
     (0b0000_0000000_10111_00000000#24, .rdOcrl),
     (0b0001_0000000_10111_10000000#24, .wrOcrl 0x80),
     (0b0010_0000000_10111_00000000#24, .peekOcrl)] : List (OpWord × Instr)),
      (decode cfg p.1).toOption = some p.2 := by decide

/-- Format B (R93), the offsets of R62. -/
theorem test_decode_counter :
    ∀ p ∈ ([
     (0b0000_0000000_11000_00000000#24, .rdTrh),
     (0b0001_0000000_11000_01111111#24, .wrTrh 0x7F),
     (0b0010_0000000_11000_00000000#24, .peekTrh),
     (0b0000_0000000_11001_00000000#24, .rdTrl),
     (0b0001_0000000_11001_00000000#24, .wrTrl 0x00),
     (0b0010_0000000_11001_00000000#24, .peekTrl),
     (0b0000_0000000_11010_00000000#24, .rdAtrh),
     (0b0001_0000000_11010_11111111#24, .wrAtrh 0xFF),
     (0b0010_0000000_11010_00000000#24, .peekAtrh),
     (0b0000_0000000_11011_00000000#24, .rdAtrl),
     (0b0001_0000000_11011_01010101#24, .wrAtrl 0x55),
     (0b0010_0000000_11011_00000000#24, .peekAtrl)] : List (OpWord × Instr)),
      (decode cfg p.1).toOption = some p.2 := by decide

/-- Format B (R93), the offsets of R62. -/
theorem test_decode_watchdog :
    ∀ p ∈ ([
     (0b0000_0000000_11101_00000000#24, .rdCoprst),
     (0b0001_0000000_11101_10101010#24, .wrCoprst 0xAA),
     (0b0010_0000000_11101_00000000#24, .peekCoprst),
     (0b0000_0000000_11110_00000000#24, .rdCopcr),
     (0b0001_0000000_11110_00000001#24, .wrCopcr 0x01),
     (0b0010_0000000_11110_00000000#24, .peekCopcr)] : List (OpWord × Instr)),
      (decode cfg p.1).toOption = some p.2 := by decide

/-- The unlisted offsets (R107) and formats C, S, L, Z, P, D (R94 to R98). -/
theorem test_decode_others :
    ∀ p ∈ ([
     (0b0000_0000000_00111_00000000#24, .rdUnmapped 0x07),
     (0b0001_0000000_10001_10100101#24, .wrUnmapped 0x11 0xA5),
     (0b0010_0000000_11111_00000000#24, .peekUnmapped 0x1F),
     (0b0011_0000_1001110001000000#24, .burn 40000),
     (0b0100_0000000000000000000_1#24, .tcap true),
     (0b0101_000000000_000_00000000#24, .irq 0),
     (0b0110_0000000000000000000_0#24, .reset false),
     (0b0111_00000000000000000000#24, .service),
     (0b1000_0000000000_10_10000001#24, .pin .c 0x81),
     (0b1001_000000000000_11111110#24, .wrcopr 0xFE),
     (0b1010_0000000000_11_10111111#24, .cfgmask .d 0xBF),
     (0b1011_00000000000000000000#24, .start),
     (0b1100_00000000000000000000#24, .exportState)] : List (OpWord × Instr)),
      (decode cfg p.1).toOption = some p.2 := by decide

/-- R102: the three ways a word spells no operation (T431). -/
theorem test_decode_invalid :
    (decode cfg 0xD00000#24).toOption = none ∧ (decode cfg 0x000001#24).toOption = none
      ∧ (decode cfg 0x500100#24).toOption = none ∧ (decode cfg 0x600002#24).toOption = none
      ∧ (decode cfg 0x102012#24).toOption = none := by decide

/-- The host reads the table's bits as the word. -/
theorem test_decodeTableWord : decodeTableWord 24 0x1012E3 = some (.wrTcr 0xE3) := by decide

theorem test_encode : encode (.wrTcr 0xE3) = 0b0001_0000000_10010_11100011#24 ∧ encode (.irq 5) = 0x500500#24 := by decide

/-! ### Single steps: the vectors of 95_test_vectors.md -/

/-- V-P1 step 6. -/
theorem test_rd_port :
    after .rdPorta (withPortA 0xFF 0x0F 0x55 0x00 0xFF) (fun t => (t.results, t.ports.a.lastSampledInput))
      = some ([.data 0xF5], 0xF0) := by decide

/-- V-P1 step 4. -/
theorem test_wr_port :
    after (.wrPorta 0x55) (withPortA 0xFF 0x0F 0x00 0x00 0xFF) (fun t => (t.trace, t.ports.a.outputLatch))
      = some ([.portOut .a 0x05 0x0F], 0x55) := by decide

/-- V-P4 step 3: no changed bit is an output. -/
theorem test_wr_port_silent :
    after (.wrPorta 0xFF) (withPortA 0x0F 0x0F 0xFF 0x00 0x00) (fun t => (t.trace, t.ports.a.outputLatch))
      = some ([], 0x0F) := by decide

/-- V-P4 step 2: the event is masked although the latch is not. -/
theorem test_wr_ddr :
    after (.wrDdra 0xFF) (withPortA 0x0F 0x00 0xFF 0x00 0x00) (fun t => (t.trace, t.ports.a.direction))
      = some ([.portOut .a 0x0F 0x0F], 0x0F) := by decide

/-- V-P1 step 2: inspection does not sample. -/
theorem test_peek_port : after .peekPorta (withPortA 0xFF 0x00 0x00 0x00 0xFF) (·.results) = some [.data 0x00] := by decide

/-- V-P3 step 2: no input source. -/
theorem test_rd_port_unconnected :
    after .rdPortc { s1 with ports := { s1.ports with c := ⟨0xFF, 0, 0, 0x3C, 0xFF⟩ } } (·.results) = some [.data 0x3C] := by
  decide

/-- T416: port D with mask 0xBF. -/
theorem test_wr_portd :
    after (.wrPortd 0xFF) { s0 with ports := { s0.ports with d := ⟨0xBF, 0, 0, 0, 0⟩ } }
      (fun t => (t.trace, t.ports.d.outputLatch)) = some ([], 0xBF) := by decide

/-- V-T1 step 1. -/
theorem test_wr_tcr : after (.wrTcr 0xFF) s0 (·.timer.tcr) = some 0xE3 := by decide

/-- V-T1 step 5: the pending bit follows flag AND enable. -/
theorem test_wr_tcr_pending :
    after (.wrTcr 0x20) (withTimer ({ · with tsr := 0x20 })) (·.pending) = some 0b10 := by decide

/-- E3 step 11. -/
theorem test_rd_tsr :
    after .rdTsr (withTimer ({ · with tsr := 0xA0 })) (fun t => (t.results, t.timer.statusSeen))
      = some ([.data 0xA0], 0xA0) := by decide

/-- E3 step 10. -/
theorem test_tcap :
    after (.tcap true) (withTimer ({ · with tcr := 0x82, tsr := 0x20, counter := 0x0008 }))
      (fun t => (t.timer.inputCaptureReg, t.timer.tsr, t.pending)) = some (0x0008, 0xA0, 0b10) := by decide

/-- E3 step 4: the inhibited edge. -/
theorem test_tcap_inhibited :
    after (.tcap true) (withTimer ({ · with tcr := 0x82, counter := 0x0006, captureInhibited := true }))
      (fun t => (t.timer.inputCaptureReg, t.timer.tsr)) = some (0x0000, 0x00) := by decide

/-- E3 step 13. -/
theorem test_rd_icrl :
    after .rdIcrl
      { withTimer ({ · with tcr := 0x82, tsr := 0xA0, statusSeen := 0xA0, inputCaptureReg := 0x0008, captureInhibited := true })
        with pending := 0b10 }
      (fun t => (t.results, t.timer.tsr, t.timer.statusSeen, t.timer.captureInhibited, t.pending))
      = some ([.data 0x08], 0x20, 0x20, false, 0b00) := by decide

/-- V-T3 steps 1 and 7: an unseen flag stays. -/
theorem test_wr_ocrh :
    after (.wrOcrh 0x12) (withTimer ({ · with outputCompareReg := 0xABCD }))
      (fun t => (t.timer.outputCompareReg, t.timer.compareInhibited)) = some (0x12CD, true) := by decide
theorem test_wr_ocrl :
    after (.wrOcrl 0x02) (withTimer ({ · with tsr := 0x40, compareInhibited := true }))
      (fun t => (t.timer.outputCompareReg, t.timer.compareInhibited, t.timer.tsr)) = some (0x0002, false, 0x40) := by decide

/-- V-T6 steps 3 and 7. -/
theorem test_rd_trh :
    after .rdTrh (withTimer ({ · with counter := 0x00FE })) (fun t => (t.results, t.timer.trLatch))
      = some ([.data 0x00], ⟨0xFE, true⟩) := by decide
theorem test_rd_trl :
    after .rdTrl (withTimer ({ · with counter := 0x0101, trLatch := ⟨0xFE, true⟩ }))
      (fun t => (t.results, t.timer.trLatch.latched)) = some ([.data 0xFE], false) := by decide

/-- V-T2 steps 8 and 9: the alternate readout leaves a seen TOF, the primary one clears it. -/
theorem test_rd_atrl :
    after .rdAtrl (withTimer ({ · with tsr := 0x20, statusSeen := 0x20, counter := 0 })) (fun t => (t.results, t.timer.tsr))
      = some ([.data 0x00], 0x20) := by decide
theorem test_rd_trl_clears :
    after .rdTrl (withTimer ({ · with tsr := 0x20, statusSeen := 0x20 })) (fun t => (t.timer.tsr, t.timer.statusSeen))
      = some (0x00, 0x00) := by decide

/-- E2 step 2. -/
theorem test_burn_wraps :
    after (.burn 48) (withTimer ({ · with counter := 0xFFFD })) (fun t => (t.timer.counter, t.timer.prescaler, t.timer.tsr))
      = some (0x0000, 0, 0x20) := by decide

/-- V-T4 step 11: the compare value is the end value. -/
theorem test_burn_matches :
    after (.burn 16) (withTimer ({ · with tcr := 0x41, tsr := 0x20, counter := 2, outputCompareReg := 3 }))
      (fun t => (t.timer.tsr, t.pending, t.trace)) = some (0x60, 0b10, [.tcmp true]) := by decide

/-- E4 step 10 and step 5. -/
theorem test_disarm :
    after (.wrCoprst 0xAA) (withPcop 0x009CA4 1 0) (fun t => (t.pcop.counter, t.pcop.disarmStage))
      = some (0x008000, 0) := by decide
theorem test_disarm_broken : after (.wrCoprst 0x00) (withPcop 0x009C40 1 0) (·.pcop) = some ⟨0x009C40, 0, 0⟩ := by decide

/-- E5 steps 2 and 6. -/
theorem test_wr_copcr_ignored : after (.wrCopcr 0x03) (withPcop 0 0 0x04) (·.pcop.copcr) = some 0x04 := by decide
theorem test_wr_copcr : after (.wrCopcr 0x05) (withPcop 0 0 0x14) (·.pcop.copcr) = some 0x15 := by decide

/-- E5: reading clears the fault bit and not the enable. -/
theorem test_rd_copcr :
    after .rdCopcr (withPcop 0 0 0x14) (fun t => (t.results, t.pcop.copcr)) = some ([.data 0x14], 0x04) := by decide

/-- E5 step 10: the timeout of CM = 1, and the wrap of a disabled NCOP. -/
theorem test_burn_timeout :
    after (.burn 1) { withPcop 0x01FFFF 0 0x05 with ncop := ⟨0x1FFFF, false⟩ }
      (fun t => (t.pcop.counter, t.pcop.copcr, t.ncop.counter, t.resetPending, t.trace))
      = some (0x020000, 0x15, 0x00000, true, [.resetReq .pcop]) := by decide

/-- R220: the clear bit as 0 and as 1. -/
theorem test_wrcopr :
    after (.wrcopr 0xFE) { s0 with ncop := ⟨0x00123, true⟩ } (·.ncop.counter) = some 0
      ∧ after (.wrcopr 0x01) { s0 with ncop := ⟨0x00123, true⟩ } (·.ncop.counter) = some 0x00123 := by decide

/-- R233, R235: a line is latched; its service clears it and charges ten cycles. -/
theorem test_irq : after (.irq 0) s0 (·.pending) = some 0b01 := by decide
theorem test_service :
    after .service { s0 with pending := 0b11 } (fun t => (t.pending.getLsbD 0, t.timer.prescaler, t.trace))
      = some (false, 10, [.push .pc, .push .x, .push .a, .push .cc, .setI, .vector 0x1FFA]) := by decide

/-- R272, R271. -/
theorem test_service_fatal : stop .service s0 = some (.inl .arbiterInvariant) := by decide
theorem test_cfgmask_fatal : stop (.cfgmask .a 0xFF) s0 = some (.inl .configOrder) := by decide

/-- E5 step 13. -/
theorem test_reset :
    after (.reset false) { withPcop 0x020000 0 0x15 with resetPending := true }
      (fun t => (t.timer.counter, t.pcop.counter, t.pcop.copcr, t.resetPending)) = some (0xFFFC, 0, 0x10, false) := by decide

/-- R258: a run-time operation is refused before the boot. -/
theorem test_before_boot : stop .rdPorta (State.powerOn cfg zeros) = some (.inr (.operation .beforeBoot)) := by decide

/-- R253: the ten values in their order. -/
theorem test_export :
    after .exportState s0 (·.results)
      = some [.values [.tcr 0, .tsr 0, .icr 0, .ocr 0, .ps 0, .tr 0xFFFC, .coprst 0, .copcr 0, .pcop 0, .ncop 0]] := by decide

/-- The machine as the host starts it: the word of `WR.TCR #0x41`. -/
theorem test_step_from_reset :
    (match step (State.reset.withFetchWord 24 0x101241) with
      | .next t => some (t.timer.tcr, t.ops)
      | _ => none) = some (0x41, []) := by decide

/-! ### The compare output pin (R51) -/

/-- The last level stands, whatever other event follows. -/
theorem test_comparePin_last :
    comparePin { s0 with trace := [.tcmp true, .tcmp false, .resetReq .ncop] } = false
      ∧ after (.burn 16) { withTimer ({ · with outputCompareReg := 0xFFFD, tcr := 0x01 }) with trace := [.tcmp false] } comparePin
          = some true := ⟨rfl, rfl⟩

/-! ### The hypotheses of the obligations are met -/

theorem witness_DecodeOfEncode :
    Instr.wellFormed cfg (.irq 0) = true ∧ Instr.wellFormed cfg .rdCoprst = true
      ∧ Instr.wellFormed small (.wrUnmapped 0x1E 0xFF) = true ∧ Instr.wellFormed cfg (.peekUnmapped 0x07) = true := by decide

theorem witness_EncodeOfDecode :
    decode cfg 0x101D55#24 = .ok (.wrCoprst 0x55) ∧ decode small 0x500100#24 = .ok (.irq 1)
      ∧ decode small 0x001E00#24 = .ok (.rdUnmapped 0x1E) := ⟨rfl, rfl, rfl⟩

theorem witness_SampleWordsDecode : cfg.hasPcop = true ∧ small.hasPcop = false ∧ 1 < small.nExt := by decide

/-- States whose next word is an operation that is applied, a fatal one and a refused one. -/
theorem witness_StepRunsDecodedOperation :
    (waiting 0x300010#24).ops = 0x300010#24 :: [0x700000#24]
      ∧ (decode (waiting 0x300010#24).cfg 0x300010#24 = .ok (.burn 16)
          ∧ ∃ t, exec (.burn 16) { waiting 0x300010#24 with ops := [0x700000#24] } = .next t)
      ∧ (decode (waiting 0x700000#24).cfg 0x700000#24 = .ok .service
          ∧ exec .service { waiting 0x700000#24 with ops := [0x700000#24] } = .fault .arbiterInvariant)
      ∧ (decode (waiting 0xB00000#24).cfg 0xB00000#24 = .ok .start
          ∧ exec .start { waiting 0xB00000#24 with ops := [0x700000#24] } = .refused (.operation .alreadyStarted)) :=
  ⟨rfl, ⟨rfl, _, rfl⟩, ⟨rfl, rfl⟩, ⟨rfl, rfl⟩⟩

theorem witness_StepPassesInvalidWords :
    decode cfg 0xF00000#24 = .error .reservedKind ∧ decode cfg 0x000001#24 = .error .mustBeZero
      ∧ decode cfg 0x500100#24 = .error .noSuchLine ∧ (waiting 0xF00000#24).ops = 0xF00000#24 :: [0x700000#24]
      ∧ s0.ops = [] := ⟨rfl, rfl, rfl, rfl, rfl⟩

theorem witness_LegalityByPhase :
    (Instr.wellFormed s0.cfg .peekTrl = true ∧ Instr.inspection .peekTrl = true)
      ∧ (Instr.wellFormed s0.cfg (.irq 0) = true ∧ Instr.runTime (.irq 0) = true ∧ s0.Running)
      ∧ (State.powerOn cfg zeros).phase ≠ .running
      ∧ { s0 with resetPending := true }.phase = .running := by decide

theorem witness_ConfigOrderFaultExactly :
    exec (.cfgmask .d 0xBF) { s0 with phase := .started } = .fault .configOrder
      ∧ exec (.cfgmask .a 0x00) s0 = .fault .configOrder := ⟨rfl, rfl⟩

theorem witness_ArbiterFaultExactly :
    s0.cfg.WellFormed ∧ s0.Running ∧ s0.pending &&& knownMask s0.cfg = 0#8
      ∧ { s0 with pending := 0x80#8 }.pending &&& knownMask s0.cfg = 0#8 := by decide

theorem witness_CfgmaskSetsPhysicalMask :
    (State.powerOn cfg zeros).phase = .config ∧ { s0 with phase := .started }.phase ≠ .config
      ∧ (withPortA 0x00 0x00 0xFF 0xFF 0xFF).Running ∧ ((withPortA 0x00 0x00 0xFF 0xFF 0xFF).port .a).physicalMask = 0#8 := by
  decide

theorem witness_StartAndBoot : (State.powerOn cfg zeros).phase = .config := by decide

theorem witness_ResetEffect : s0.phase ≠ .config ∧ { s0 with phase := .started }.phase ≠ .config := by decide

theorem witness_ResetTwiceIsOnce :
    ∃ t, exec (.reset true) { s0 with resetPending := true, ports := { s0.ports with b := ⟨0xFF, 0x0F, 0xA5, 0, 0⟩ } } = .next t :=
  ⟨_, rfl⟩

theorem witness_RdPortSamplesPins :
    s0.Running ∧ s1.Running ∧ s0.cfg.inConn.get .c = true ∧ s1.cfg.inConn.get .c = false := by decide

/-- A changed output bit (the highest), and a change of input bits only. -/
theorem witness_WrPortLatches :
    (withPortA 0xFF 0x80 0x00 0 0).Running
      ∧ ((0x80#8 &&& 0xFF#8).getLsbD 7 ≠ ((withPortA 0xFF 0x80 0x00 0 0).port .a).outputLatch.getLsbD 7
          ∧ ((withPortA 0xFF 0x80 0x00 0 0).port .a).direction.getLsbD 7 = true)
      ∧ ∀ b < 8, ((withPortA 0xFF 0x80 0x00 0 0).port .a).direction.getLsbD b = true →
          (0x7F#8 &&& 0xFF#8).getLsbD b = ((withPortA 0xFF 0x80 0x00 0 0).port .a).outputLatch.getLsbD b := by decide

theorem witness_DirectionRegisterAccess :
    s0.Running ∧ (.c, .rdDdrc, .wrDdrc, .peekDdrc) ∈ ddrOps
      ∧ 0x01#8 &&& (s0.port .c).physicalMask ≠ (s0.port .c).direction
      ∧ 0x00#8 &&& (s0.port .c).physicalMask = (s0.port .c).direction :=
  ⟨by decide, .tail _ (.tail _ (.head _)), by decide, by decide⟩

theorem witness_PinDrivesOnly : s0.Running := by decide

theorem witness_PortDIsInputOnly :
    (s0.port .d).direction = 0#8 ∧ s0.Running ∧ s0.cfg.inConn.d = true ∧ ∃ t, exec (.wrPortd 0xFF) s0 = .next t :=
  ⟨rfl, by decide, rfl, _, rfl⟩

theorem witness_NotificationsOnlyFromPortWrites :
    ∃ t, exec (.wrPorta 0x01) (withPortA 0xFF 0xFF 0 0 0) = .next t ∧ Event.portOut .a 0x01 0xFF ∈ t.trace :=
  ⟨_, rfl, by decide⟩

/-- Each element changed by its writer. -/
theorem witness_PortElementWriters :
    after (.cfgmask .a 0xBF) (State.powerOn cfg zeros) (fun t => (t.port .a).physicalMask) = some 0xBF
      ∧ after (.wrDdra 0x01) s0 (fun t => (t.port .a).direction) = some 0x01
      ∧ after (.wrPorta 0x80) s0 (fun t => (t.port .a).outputLatch) = some 0x80
      ∧ after .rdPorta (withPortA 0xFF 0 0 0 0xFF) (fun t => (t.port .a).lastSampledInput) = some 0xFF
      ∧ after (.pin .a 0xFF) s0 (fun t => (t.port .a).pinIn) = some 0xFF := by decide

theorem witness_TcrAccess : s0.Running ∧ s0.cfg.nExt.val < 8 := by decide

theorem witness_TsrReadMarksSeen : (withTimer ({ · with tsr := 0xE0 })).Running := by decide

theorem witness_CaptureHighReadInhibits : s0.Running := by decide

theorem witness_CaptureLowReadClearsSeenFlag :
    (withTimer ({ · with tsr := 0x80, statusSeen := 0x80 })).Running
      ∧ (withTimer ({ · with tsr := 0x80, statusSeen := 0x80 })).timer.statusSeen.getLsbD 7 = true
      ∧ (withTimer ({ · with tsr := 0x80 })).timer.statusSeen.getLsbD 7 = false := by decide

theorem witness_CompareReadsHaveNoEffect : s0.Running := by decide

theorem witness_CompareHighWriteInhibits : s0.Running := by decide

theorem witness_CompareLowWriteClearsSeenFlag :
    (withTimer ({ · with tsr := 0x40, statusSeen := 0x40 })).Running
      ∧ (withTimer ({ · with tsr := 0x40, statusSeen := 0x40 })).timer.statusSeen.getLsbD 6 = true
      ∧ (withTimer ({ · with tsr := 0x40 })).timer.statusSeen.getLsbD 6 = false := by decide

theorem witness_CounterHighReadLatchesLow : s0.Running := by decide

/-- A sequence in progress, none in progress, TOF seen and unseen. -/
theorem witness_CounterLowReadEndsSequence :
    (withTimer ({ · with trLatch := ⟨0xFE, true⟩, tsr := 0x20, statusSeen := 0x20 })).Running
      ∧ (withTimer ({ · with trLatch := ⟨0xFE, true⟩, tsr := 0x20, statusSeen := 0x20 })).timer.statusSeen.getLsbD 5 = true
      ∧ s0.timer.statusSeen.getLsbD 5 = false ∧ s0.timer.trLatch.latched = false := by decide

theorem witness_CounterReadIsCoherent :
    (∃ u, execAll [.rdTrh, .burn 0, .burn 65535, .rdTrl] s0 = some u)
      ∧ ∃ u, execAll [.rdAtrh, .rdAtrl] s0 = some u := ⟨⟨_, rfl⟩, ⟨_, rfl⟩⟩

/-- The selected edge; the other edge; an inhibited edge. -/
theorem witness_TcapCapturesSelectedEdge :
    s0.Running ∧ false = s0.timer.tcr.getLsbD 1 ∧ s0.timer.captureInhibited = false
      ∧ true ≠ s0.timer.tcr.getLsbD 1 ∧ (withTimer ({ · with captureInhibited := true })).timer.captureInhibited = true := by
  decide

theorem witness_CaptureInhibitWindow :
    (∃ t, exec .rdIcrh s0 = .next t) ∧ (∃ t, exec .rdIcrl s0 = .next t) ∧ (∃ t, exec (.reset false) s0 = .next t)
      ∧ (∃ t, exec (.burn 1) s0 = .next t)
      ∧ ∃ t, exec (.tcap false) (withTimer ({ · with captureInhibited := true })) = .next t :=
  ⟨⟨_, rfl⟩, ⟨_, rfl⟩, ⟨_, rfl⟩, ⟨_, rfl⟩, ⟨_, rfl⟩⟩

/-- The last clause at the compare value just above the counter, reached by the last cycle. -/
theorem witness_CompareInhibitWindow :
    (∃ t, exec (.wrOcrh 0) s0 = .next t) ∧ (∃ t, exec (.wrOcrl 0) s0 = .next t) ∧ (∃ t, exec (.reset false) s0 = .next t)
      ∧ (withTimer ({ · with compareInhibited := true, outputCompareReg := 0xFFFD })).timer.compareHit 16
      ∧ (∃ t, exec (.burn 16) (withTimer ({ · with compareInhibited := true, outputCompareReg := 0xFFFD })) = .next t)
      ∧ (withTimer ({ · with compareInhibited := true, outputCompareReg := 0xFFFD, prescaler := 6 })).timer.compareHit 10
      ∧ ∃ t, exec .service
          { withTimer ({ · with compareInhibited := true, outputCompareReg := 0xFFFD, prescaler := 6 }) with pending := 1 }
            = .next t :=
  ⟨⟨_, rfl⟩, ⟨_, rfl⟩, ⟨_, rfl⟩, by decide, ⟨_, rfl⟩, by decide, ⟨_, rfl⟩⟩

/-- Each clause: a flag cleared by its follow-up access, and a flag set. -/
theorem witness_FlagsClearedOnlyByFollowUp :
    after .rdIcrl (withTimer ({ · with tsr := 0xE0, statusSeen := 0xE0 })) (·.timer.tsr) = some 0x60
      ∧ after (.wrOcrl 0) (withTimer ({ · with tsr := 0xE0, statusSeen := 0xE0 })) (·.timer.tsr) = some 0xA0
      ∧ after .rdTrl (withTimer ({ · with tsr := 0xE0, statusSeen := 0xE0 })) (·.timer.tsr) = some 0xC0
      ∧ after (.tcap false) s0 (·.timer.tsr) = some 0x80
      ∧ after (.burn 64) (withTimer ({ · with outputCompareReg := 0xFFFD })) (·.timer.tsr) = some 0x60 := by decide

theorem witness_BurnAdvancesTimer : s0.Running := by decide

theorem witness_BurnAdvancesAll :
    s0.Running ∧ s0.cfg.hasPcop = true ∧ s1.cfg.hasPcop = false ∧ s1.cfg.hasNcop = false
      ∧ (withTimer ({ · with outputCompareReg := 0xFFFD })).timer.compareHit 16
      ∧ (withTimer ({ · with outputCompareReg := 0xFFFD })).timer.compareInhibited = false := by decide

theorem witness_BurnChunkingLaw :
    (65535#16).toNat = (40000#16).toNat + (25535#16).toNat
      ∧ (∃ t, exec (.burn 40000) s0 = .next t ∧ ∃ u, exec (.burn 25535) t = .next u)
      ∧ ∃ v, exec (.burn 65535) s0 = .next v := ⟨rfl, ⟨_, rfl, _, rfl⟩, ⟨_, rfl⟩⟩

/-- Compare value 0; and the wrapped end value itself. -/
theorem witness_CompareValuesPassedOver :
    (∃ t, exec (.burn 65535) s0 = .next t ∧ s0.timer.outputCompareReg = 0#16)
      ∧ (∃ t, exec (.burn 80) (withTimer ({ · with counter := 0xFFFD, outputCompareReg := 2 })) = .next t)
      ∧ (withTimer ({ · with counter := 0xFFFD, outputCompareReg := 2 })).timer.wraps 80
      ∧ 2 ≤ 0xFFFD + (0 + 80) / 16 - 0x10000 := ⟨⟨_, rfl, rfl⟩, ⟨_, rfl⟩, by decide, by decide⟩

theorem witness_NothingAdvancesButInBurns :
    (∃ t, exec .rdTrh s0 = .next t) ∧ (∃ t, exec (.wrCoprst 0xAA) s0 = .next t) ∧ ∃ t, exec (.wrcopr 0) s0 = .next t :=
  ⟨⟨_, rfl⟩, ⟨_, rfl⟩, ⟨_, rfl⟩⟩

theorem witness_DisarmSequence : s0.Running ∧ s0.cfg.hasPcop = true ∧ (withPcop 0x1FFFFF 1 0).Running := by decide

theorem witness_CopcrReadClearsFault : (withPcop 0 0 0x17).cfg.hasPcop = true ∧ (withPcop 0 0 0x17).Running := by decide

/-- A write that would clear PCOPE, and writes that would not. -/
theorem witness_CopcrWriteSetOnlyEnable :
    (withPcop 0 0 0x04).Running ∧ (withPcop 0 0 0x04).cfg.hasPcop = true
      ∧ (withPcop 0 0 0x04).pcop.copcr.getLsbD 2 = true ∧ (0x03#8).getLsbD 2 = false
      ∧ (withPcop 0 0 0x00).pcop.copcr.getLsbD 2 = false ∧ (0x04#8).getLsbD 2 = true := by decide

theorem witness_FaultAndEnableBits :
    after .rdCopcr (withPcop 0 0 0x10) (·.pcop.copcr) = some 0x00
      ∧ after (.burn 1) (withPcop 0x7FFF 0 0x04) (·.pcop.copcr) = some 0x14
      ∧ after (.reset false) (withPcop 0 0 0x04) (·.pcop.copcr) = some 0x00
      ∧ after (.wrCopcr 0x04) (withPcop 0 0 0x00) (·.pcop.copcr) = some 0x04 := by decide

theorem witness_UndefinedAccessesChangeNothing : s0.Running ∧ s1.Running ∧ s1.cfg.hasPcop = false := by decide

/-- Two intervals of 2^15 - 1 cycles. -/
theorem witness_ServicedPcopNeverTimesOut :
    (withPcop 0x8000 0 0x04).Running ∧ (withPcop 0x8000 0 0x04).cfg.hasPcop = true
      ∧ (withPcop 0x8000 0 0x04).cfg.pcopDisarmClear = 0x007FFF#21 ∧ (withPcop 0x8000 0 0x04).ncop.enabled = false
      ∧ (withPcop 0x8000 0 0x04).pcop.counter &&& 0x007FFF#21 = 0#21
      ∧ ∀ burns ∈ [[32767#16], [20000#16, 12767#16]], cyclesTotal burns < 2 ^ 15 := by decide

theorem witness_WrcoprClearsCounter : s0.Running ∧ s0.cfg.hasNcop = true := by decide

/-- Burns of 2^17 - 1 cycles in all, and a burn of 1 that completes the period. -/
theorem witness_NcopPeriod :
    { s0 with ncop := ⟨0, true⟩ }.Running ∧ { s0 with ncop := ⟨0, true⟩ }.cfg.hasNcop = true
      ∧ { s0 with ncop := ⟨0, true⟩ }.pcop.copcr.getLsbD 2 = false
      ∧ cyclesTotal [65535#16, 65535#16, 1#16] < 2 ^ 17
      ∧ 2 ^ 17 ≤ cyclesTotal [65535#16, 65535#16, 1#16] + (1#16).toNat := by decide

theorem witness_ResetRequestLife :
    after (.burn 1) (withPcop 0x7FFF 0 0x04) (·.resetPending) = some true
      ∧ after (.reset true) { s0 with resetPending := true } (fun t => (t.resetPending, t.ncop.enabled)) = some (false, true) := by
  decide

theorem witness_IrqLatchesItsLine : 1 < s1.cfg.nExt ∧ s1.Running ∧ s1.cfg.nExt ≤ 2 ∧ s0.cfg.nExt ≤ 7 := by decide

theorem witness_ServiceDispatchesOneSource :
    s1.Running ∧ s1.cfg.WellFormed ∧ { s1 with pending := 0b100 }.pending &&& knownMask s1.cfg ≠ 0#8
      ∧ { s1 with pending := 0b011 }.pending &&& knownMask s1.cfg ≠ 0#8 := by decide

/-- The last line alone with the timer, and the timer alone. -/
theorem witness_DefaultPriorityOrder :
    s1.cfg.priority = Config.linesThenTimer s1.cfg.nExt
      ∧ (∃ t, exec .service { s1 with pending := 0b110 } = .next t)
      ∧ (∀ k : Fin 8, k < 1 → { s1 with pending := 0b110 }.pending.getLsbD k.val = false)
      ∧ (∃ t, exec .service { s1 with pending := 0b100 } = .next t)
      ∧ ∀ k : Fin 8, k < s1.cfg.nExt → { s1 with pending := 0b100 }.pending.getLsbD k.val = false :=
  ⟨by decide, ⟨_, rfl⟩, by decide, ⟨_, rfl⟩, by decide⟩

theorem witness_ExternalBitLife :
    1 < s1.cfg.nExt ∧ after (.irq 1) s1 (·.pending) = some 0b010
      ∧ after .service { s1 with pending := 0b010 } (·.pending) = some 0
      ∧ after (.reset false) { s1 with pending := 0b010 } (·.pending) = some 0 := by decide

theorem witness_InspectionChangesNothing :
    Instr.inspection .exportState = true ∧ (∃ t, exec .rdTrl s0 = .next t) ∧ (∃ t, exec .rdCopcr s0 = .next t)
      ∧ s0.cfg.hasPcop = true := ⟨rfl, ⟨_, rfl⟩, ⟨_, rfl⟩, rfl⟩

/-- A compare output and a watchdog's request after it; an operation after a compare output that emits none. -/
theorem witness_OneResponsePerOperation :
    (∃ t, exec (.burn 16) { withTimer ({ · with outputCompareReg := 0xFFFD, tcr := 0x01 }) with pcop := ⟨0x7FFF, 0, 0x04⟩ } = .next t
        ∧ t.trace = [] ++ .tcmp true :: [.resetReq .pcop] ∧ tcmpEvents [.resetReq .pcop] = [])
      ∧ ∃ t, exec (.wrPorta 0x01) { withPortA 0xFF 0xFF 0 0 0 with trace := [.tcmp true] } = .next t
        ∧ tcmpEvents t.trace = tcmpEvents [.tcmp true] ∧ tcmpEvents [.tcmp true] ≠ [] :=
  ⟨⟨_, rfl, rfl, rfl⟩, ⟨_, rfl, rfl, by decide⟩⟩

/-- A state with an output, a seen flag, a pending timer and a notification, and a step from it. -/
def busy : State :=
  { s0 with
    ports := { s0.ports with a := ⟨0xBF, 0x0F, 0xFF, 0, 0⟩ }
    timer := { s0.timer with tcr := 0xE3, tsr := 0x60, statusSeen := 0x40 }
    pcop := ⟨0x7FFF, 1, 0x14⟩
    pending := 0b11
    trace := [.portOut .a 0x0F 0x0F]
    ops := [0x300001#24] }

theorem witness_StepKeepsInvariant : Inv busy ∧ ∃ t, step busy = .next t :=
  ⟨⟨by intro i; cases i <;> decide, by decide, fun h => absurd rfl h, by decide, by decide, by decide, by decide, by decide, by decide,
    by decide, by decide⟩, _, rfl⟩

theorem witness_StepKeepsNotificationsMasked :
    Inv busy ∧ NotificationsMasked busy ∧ ∃ t, step busy = .next t :=
  ⟨witness_StepKeepsInvariant.1,
    ⟨by intro e he; rw [show busy.trace = [.portOut .a 0x0F 0x0F] from rfl, List.mem_singleton] at he; subst he; constructor <;> decide,
      by decide⟩, _, rfl⟩

end Sys2Proof.Tests
end

