-- ==== Sys2Proof/Proofs/Port.lean ====
section
/-! SUPPORT. The port registers (40_port.md): what each access is as one equation of states, with the notification of a write
said bit by bit, and the statements of the Port Controller settled with it. -/

namespace Sys2Proof.Machine

/-! ### The operations of a port, for every index -/

theorem exec_rdPort (i : PortId) (s : State) : exec (rdPort i) s = whenRunning s (.next (readPort i s)) := by
  cases i <;> rfl

theorem exec_wrPort (i : PortId) (data : Byte) (s : State) :
    exec (wrPort i data) s = whenRunning s (.next ((writeLatch i data s).respond .done)) := by
  cases i <;> rfl

/-- The three operations of a row of `ddrOps` act on the direction of the port that the row names (R125 to R127). -/
theorem exec_ddrOps {i : PortId} {rd peek : Instr} {wr : Byte → Instr} (h : (i, rd, wr, peek) ∈ ddrOps) (s : State) :
    exec rd s = whenRunning s (.next (s.respond (.data (s.port i).direction)))
      ∧ exec peek s = .next (s.respond (.data (s.port i).direction))
      ∧ ∀ data, exec (wr data) s = whenRunning s (.next ((writeDirection i data s).respond .done)) := by
  simp only [ddrOps, List.mem_cons, List.not_mem_nil, or_false, Prod.mk.injEq] at h
  obtain ⟨rfl, rfl, rfl, rfl⟩ | ⟨rfl, rfl, rfl, rfl⟩ | ⟨rfl, rfl, rfl, rfl⟩ := h
  · exact ⟨rfl, rfl, fun _ => rfl⟩
  · exact ⟨rfl, rfl, fun _ => rfl⟩
  · exact ⟨rfl, rfl, fun _ => rfl⟩

/-! ### CFGMASK by phase -/

theorem exec_cfgmask_of_config {s : State} (h : s.phase = .config) (idx : PortId) (v : Byte) :
    exec (.cfgmask idx v) s = .next ((s.setPort idx { s.port idx with physicalMask := v }).respond .done) := by
  rw [exec_cfgmask, h]

theorem exec_cfgmask_of_not_config {s : State} (h : s.phase ≠ .config) (idx : PortId) (v : Byte) :
    exec (.cfgmask idx v) s = .fault .configOrder := by
  cases hp : s.phase with
  | config => exact absurd hp h
  | started => rw [exec_cfgmask, hp]
  | running => rw [exec_cfgmask, hp]

/-! ### The port that a write leaves -/

@[simp] theorem State.respond_port (s : State) (r : Response) (i : PortId) : (s.respond r).port i = s.port i := rfl

@[simp] theorem writeLatch_port_self (i : PortId) (data : Byte) (s : State) :
    (writeLatch i data s).port i = { s.port i with outputLatch := data &&& (s.port i).physicalMask } := by
  simp [writeLatch_eq, State.port]

@[simp] theorem writeDirection_port_self (i : PortId) (data : Byte) (s : State) :
    (writeDirection i data s).port i = { s.port i with direction := data &&& (s.port i).physicalMask } := by
  simp [writeDirection_eq, State.port]

/-- A port of which no bit exists reads 0 (R129). -/
theorem compose_of_mask_zero {p : Port} (h : p.physicalMask = 0#8) : compose p = 0#8 := by
  simp [compose, h]

/-! ### The notification of a write -/

/-- Some bit selected by `dir` differs between `x` and `y`: the condition of R123 on words and on bits. -/
theorem xor_and_ne_zero_iff (x y dir : Byte) :
    (x ^^^ y) &&& dir ≠ 0#8 ↔ ∃ b < 8, x.getLsbD b ≠ y.getLsbD b ∧ dir.getLsbD b = true := by
  rw [ne_eq, BitVec.eq_of_getLsbD_eq_iff, not_forall]
  refine exists_congr fun b => ?_
  rw [Classical.not_imp]
  simp

/-- A write of the latch that changes a bit the port drives notifies (R123). -/
theorem writeLatch_trace_of_driven_change {i : PortId} {data : Byte} {s : State}
    (h : ∃ b < 8, (data &&& (s.port i).physicalMask).getLsbD b ≠ (s.port i).outputLatch.getLsbD b
      ∧ (s.port i).direction.getLsbD b = true) :
    (writeLatch i data s).trace =
      s.trace ++ [.portOut i (compose ((writeLatch i data s).port i)) ((writeLatch i data s).port i).direction] := by
  rw [writeLatch_port_self, writeLatch_eq, if_pos ((xor_and_ne_zero_iff ..).mpr h)]

/-- A write of the latch that keeps every bit the port drives is silent (R123). -/
theorem writeLatch_trace_of_driven_kept {i : PortId} {data : Byte} {s : State}
    (h : ∀ b < 8, (s.port i).direction.getLsbD b = true →
      (data &&& (s.port i).physicalMask).getLsbD b = (s.port i).outputLatch.getLsbD b) :
    (writeLatch i data s).trace = s.trace := by
  have hquiet : ¬ ((data &&& (s.port i).physicalMask) ^^^ (s.port i).outputLatch) &&& (s.port i).direction ≠ 0#8 := by
    rw [xor_and_ne_zero_iff]
    rintro ⟨b, hb, hchanged, hdriven⟩
    exact hchanged (h b hb hdriven)
  rw [writeLatch_eq, if_neg hquiet, List.append_nil]

/-- A write that changes the direction notifies (R126). -/
theorem writeDirection_trace_of_changed {i : PortId} {data : Byte} {s : State}
    (h : data &&& (s.port i).physicalMask ≠ (s.port i).direction) :
    (writeDirection i data s).trace =
      s.trace ++ [.portOut i (compose ((writeDirection i data s).port i)) ((writeDirection i data s).port i).direction] := by
  rw [writeDirection_port_self, writeDirection_eq, if_pos h]

/-- A write of the direction that the port has is silent (R126). -/
theorem writeDirection_trace_of_kept {i : PortId} {data : Byte} {s : State}
    (h : data &&& (s.port i).physicalMask = (s.port i).direction) :
    (writeDirection i data s).trace = s.trace := by
  rw [writeDirection_eq, if_neg (not_not.mpr h), List.append_nil]

/-! ### The statements -/

/-- Settles O17: the frame is `writeLatch_eq`, the notification is decided bit by bit. -/
theorem wrPortLatches : Obligations.WrPortLatches := by
  intro i data s hrun
  refine ⟨(writeLatch i data s).respond .done, ?_, ?_, ?_, ?_⟩
  · rw [exec_wrPort, whenRunning_of_running hrun]
  · rw [writeLatch_eq]
    rfl
  · exact writeLatch_trace_of_driven_change
  · exact writeLatch_trace_of_driven_kept

/-- Settles O18: each row of `ddrOps` is a read, a write and an inspection of one direction. -/
theorem directionRegisterAccess : Obligations.DirectionRegisterAccess := by
  rintro ⟨i, rd, wr, peek⟩ hop s
  obtain ⟨hrd, hpeek, hwr⟩ := exec_ddrOps hop s
  refine ⟨fun hrun => ?_, hpeek, fun hrun data => ⟨(writeDirection i data s).respond .done, ?_, ?_, ?_, ?_⟩⟩
  · rw [hrd, whenRunning_of_running hrun]
    rfl
  · rw [hwr, whenRunning_of_running hrun]
  · rw [writeDirection_eq]
    rfl
  · exact writeDirection_trace_of_changed
  · exact writeDirection_trace_of_kept

/-- Settles O10: CFGMASK by phase; on an empty port every read is masked to 0 and so is every latched value. -/
theorem cfgmaskSetsPhysicalMask : Obligations.CfgmaskSetsPhysicalMask := by
  intro s idx v
  refine ⟨fun hcfg => exec_cfgmask_of_config hcfg idx v, fun hcfg => exec_cfgmask_of_not_config hcfg idx v,
    fun hmask hrun => ⟨⟨readPort idx s, ?_, ?_⟩, (writeLatch idx v s).respond .done, ?_, ?_⟩⟩
  · rw [exec_rdPort, whenRunning_of_running hrun]
  · rw [readPort_eq, compose_of_mask_zero ((samplePins_physicalMask ..).trans hmask)]
  · rw [exec_wrPort, whenRunning_of_running hrun]
  · rw [State.respond_port, writeLatch_port_self]
    simp [hmask]

/-- Settles O19: PIN is one port replaced and one response. -/
theorem pinDrivesOnly : Obligations.PinDrivesOnly := by
  intro s idx v hrun
  rw [exec_pin, whenRunning_of_running hrun]
  rfl

end Sys2Proof.Machine
end

