-- ==== Sys2Proof/Proofs/Timer.lean ====
section
/-! SUPPORT. The Timer/Counter Engine (41_timer.md): the bits of `pending` after a recomputation, the compare-output
events of a burn, and the statements of the timer settled with them. -/

namespace Sys2Proof.Machine

/-! ### The timer's pending bit -/

/-- Every bit of `pending` after `recompute_timer_pending()` (R151). -/
theorem State.recomputeTimerPending_pending_getLsbD (s : State) {k : Nat} (hk : k < 8) :
    s.recomputeTimerPending.pending.getLsbD k =
      if k = s.cfg.nExt.val then decide (s.timer.tcr &&& s.timer.tsr &&& 0xE0#8 ≠ 0#8) else s.pending.getLsbD k := by
  rw [State.recomputeTimerPending_pending, putBit_getLsbD _ _ _ _ hk, timerEvent_eq]

/-! ### The compare-output events of a burn -/

@[simp] theorem tcmpEvents_append (l m : List Event) : tcmpEvents (l ++ m) = tcmpEvents l ++ tcmpEvents m :=
  List.filter_append ..

/-- A reset request, sent or not, is no compare-output event. -/
@[simp] theorem tcmpEvents_ite_resetReq (p : Prop) [Decidable p] (src : Watchdog) :
    tcmpEvents (if p then [.resetReq src] else []) = [] := by
  split <;> rfl

@[simp] theorem tcmpEvents_burnedTcmp (n : Nat) (t : Timer) : tcmpEvents (burnedTcmp n t) = burnedTcmp n t := by
  unfold burnedTcmp
  split <;> rfl

/-- Of a whole burn only the timer's part emits the compare output (R180 step 7, R251). -/
theorem tcmpEvents_burnAll (n : Nat) (s : State) :
    tcmpEvents (burnAll n s).trace = tcmpEvents s.trace ++ burnedTcmp n s.timer := by
  simp only [burnAll_trace, tcmpEvents_append, tcmpEvents_burnedTcmp, tcmpEvents_ite_resetReq, List.append_nil]

/-! ### The statements -/

/-- Settles O37: each element is read off `burnAll_timer` and `burnAll_pending`, the flags bit by bit. -/
theorem burnAdvancesTimer : Obligations.BurnAdvancesTimer := by
  intro s n hrun
  refine ⟨(burnAll n.toNat s).respond .done, ?_, ?_, ?_, ?_, ?_, ?_, ?_⟩
  · rw [exec_burn, whenRunning_of_running hrun]
  · rw [State.respond_timer, burnAll_timer]
  · rw [State.respond_timer, burnAll_timer, BitVec.toNat_ofNat]
  · rw [State.respond_timer, burnAll_timer, BitVec.toNat_ofNat]
  · intro b _
    rw [State.respond_timer, burnAll_timer, burnedTsr_getLsbD]
  · exact tcmpEvents_burnAll ..
  · rw [State.respond_timer, State.respond_pending, burnAll_timer, burnAll_pending,
      putBit_getLsbD _ _ _ _ s.cfg.nExt.isLt, if_pos rfl]

/-- Settles O23: a write of TCR is one timer element replaced and one recomputation. -/
theorem tcrAccess : Obligations.TcrAccess := by
  intro s
  refine ⟨fun hrun => ?_, rfl, fun hrun data =>
    ⟨((s.setTimer { s.timer with tcr := data &&& tcrValid }).recomputeTimerPending).respond .done, ?_, rfl, fun k hk => ?_⟩⟩
  · rw [exec_rdTcr, whenRunning_of_running hrun]
    rfl
  · rw [exec_wrTcr, whenRunning_of_running hrun]
  · rw [State.respond_pending, State.recomputeTimerPending_pending_getLsbD _ hk]
    rfl

/-- Settles O24: RD of TSR replaces the seen mask alone; PEEK is a response alone. -/
theorem tsrReadMarksSeen : Obligations.TsrReadMarksSeen := by
  intro s
  refine ⟨fun hrun => ?_, exec_peekTsr s⟩
  rw [exec_rdTsr, whenRunning_of_running hrun]
  rfl

/-- Settles O25: RD of ICRH sets the inhibit alone; each PEEK is a response alone. -/
theorem captureHighReadInhibits : Obligations.CaptureHighReadInhibits := by
  intro s
  refine ⟨fun hrun => ?_, exec_peekIcrh s, exec_peekIcrl s⟩
  rw [exec_rdIcrh, whenRunning_of_running hrun]
  rfl

end Sys2Proof.Machine
end

