-- ==== Sys2Proof/Proofs/Watchdog.lean ====
section
/-! SUPPORT. The Watchdog Engine (42_watchdog.md): the accesses of COPCR on a variant that has the programmable COP. -/

namespace Sys2Proof.Machine

/-- COPF is bit 4 of `copcr`, so what clears it keeps the seven other bits (R10, R204). -/
theorem compl_copfMask : ~~~copfMask = 0xEF#8 := by
  decide

theorem exec_rdCopcr_of_hasPcop {s : State} (h : s.cfg.hasPcop = true) :
    exec .rdCopcr s =
      whenRunning s
        (.next ((s.setPcop { s.pcop with copcr := s.pcop.copcr &&& 0xEF#8 }).respond (.data s.pcop.copcr))) := by
  rw [exec_rdCopcr, if_pos h, compl_copfMask]

theorem exec_peekCopcr_of_hasPcop {s : State} (h : s.cfg.hasPcop = true) :
    exec .peekCopcr s = .next (s.respond (.data s.pcop.copcr)) := by
  rw [exec_peekCopcr, if_pos h]

/-- Settles O43: RD of COPCR is one control register replaced and one response; PEEK is the response alone. -/
theorem copcrReadClearsFault : Obligations.CopcrReadClearsFault := by
  intro s hpcop
  refine ⟨fun hrun => ?_, exec_peekCopcr_of_hasPcop hpcop⟩
  rw [exec_rdCopcr_of_hasPcop hpcop, whenRunning_of_running hrun]
  rfl

end Sys2Proof.Machine
end

