-- ==== Sys2Proof/Proofs/System.lean ====
section
/-! SUPPORT. The whole-block statements (44_system.md): when an operation leaves a view of the state as it is, and the view
of the four counters, which nothing outside a burn advances (R250). -/

namespace Sys2Proof.Machine

/-! ### An outcome that keeps a view of the state -/

/-- An outcome of an operation on `s`, if a next state, looks the same as `s` through `view`. -/
def Keeps {α : Type} (view : State → α) (s : State) (o : Outcome) : Prop :=
  ∀ t, o = .next t → view t = view s

section
variable {α : Type} {view : State → α} {s t : State}

theorem Keeps.next (h : view t = view s) : Keeps view s (.next t) := by
  rintro _ ⟨⟩
  exact h

theorem Keeps.refused (why : Refusal) : Keeps view s (.refused why) := by
  rintro _ ⟨⟩

theorem Keeps.fault (why : Fault) : Keeps view s (.fault why) := by
  rintro _ ⟨⟩

/-- The legality test only takes next states away (R258). -/
theorem Keeps.guarded {o : Outcome} (h : Keeps view s o) : Keeps view s (whenRunning s o) :=
  fun t hnext => h t (whenRunning_next hnext).2

/-- The outcome of most run-time operations: one next state, where the operation is legal. -/
theorem Keeps.running (h : view t = view s) : Keeps view s (whenRunning s (.next t)) :=
  (Keeps.next h).guarded

end

/-! ### The counters -/

/-- What advances with time (R250): `counter`, `prescaler`, `pcop_counter` and `ncop_counter`. -/
def State.counters (s : State) : Half × BitVec 4 × BitVec 21 × BitVec 17 :=
  (s.timer.counter, s.timer.prescaler, s.pcop.counter, s.ncop.counter)

theorem State.counters_eq_iff (s t : State) :
    t.counters = s.counters ↔
      t.timer.counter = s.timer.counter ∧ t.timer.prescaler = s.timer.prescaler
        ∧ t.pcop.counter = s.pcop.counter ∧ t.ncop.counter = s.ncop.counter := by
  simp only [State.counters, Prod.mk.injEq]

@[simp] theorem State.respond_counters (s : State) (r : Response) : (s.respond r).counters = s.counters := rfl
@[simp] theorem State.readFree_counters (s : State) : s.readFree.counters = s.counters := rfl
@[simp] theorem capture_counters (s : State) : (capture s).counters = s.counters := rfl
@[simp] theorem readPort_counters (i : PortId) (s : State) : (readPort i s).counters = s.counters := rfl

@[simp] theorem writeLatch_counters (i : PortId) (data : Byte) (s : State) :
    (writeLatch i data s).counters = s.counters := by
  rw [writeLatch_eq]
  rfl

@[simp] theorem writeDirection_counters (i : PortId) (data : Byte) (s : State) :
    (writeDirection i data s).counters = s.counters := by
  rw [writeDirection_eq]
  rfl

@[simp] theorem State.clearIfSeen_counters (s : State) (f : TimerFlag) : (s.clearIfSeen f).counters = s.counters := by
  simp only [State.counters, State.clearIfSeen_timer, State.clearIfSeen_pcop, State.clearIfSeen_ncop]

/-! ### Which operations move a counter -/

/-- The operations that may move a counter: the burns, which advance it, and those that set it (R250). -/
def movesCounter : Instr → Bool
  | .burn _ | .service | .reset _ | .wrCoprst _ | .wrcopr _ => true
  | _ => false

/-- Nothing else moves a counter: operation by operation, by the shared operation that each one is. -/
theorem exec_keeps_counters {i : Instr} (hmove : movesCounter i = false) (s : State) :
    Keeps State.counters s (exec i s) := by
  cases i with
  | burn | service | reset | wrCoprst | wrcopr => cases hmove
  | rdPorta | rdPortb | rdPortc | rdPortd => exact .running (readPort_counters ..)
  | wrPorta | wrPortb | wrPortc | wrPortd => exact .running (writeLatch_counters ..)
  | wrDdra | wrDdrb | wrDdrc => exact .running (writeDirection_counters ..)
  | peekPorta | peekPortb | peekPortc | peekPortd | peekDdra | peekDdrb | peekDdrc | peekTcr | peekTsr | peekIcrh | peekIcrl
  | peekOcrh | peekOcrl | peekTrh | peekTrl | peekAtrh | peekAtrl | exportState => exact .next (State.respond_counters ..)
  | rdDdra | rdDdrb | rdDdrc | rdTcr | rdOcrh | rdOcrl | wrTsr | wrIcrh | wrIcrl | wrTrh | wrTrl | wrAtrh | wrAtrl
  | wrUnmapped => exact .running (State.respond_counters ..)
  | pin | wrTcr | rdTsr | rdIcrh | wrOcrh | rdTrh | rdAtrh | rdAtrl =>
    -- the pins of a port, or one timer element that is neither the counter nor the prescaler
    exact .running rfl
  | rdIcrl | wrOcrl | rdTrl => exact .running (State.clearIfSeen_counters ..)
  | rdCoprst | rdUnmapped => exact .running (State.readFree_counters s)
  | peekCoprst | peekUnmapped => exact .next (State.readFree_counters s)
  | rdCopcr => exact .running (by split <;> rfl)
  | wrCopcr => exact .running (by rw [State.respond_counters]; split <;> rfl)
  | peekCopcr => exact .next (by split <;> rfl)
  | tcap => exact .running (by rw [State.respond_counters]; split <;> simp)
  | irq line =>
    rw [exec_irq]
    split
    · exact .running rfl
    · exact .refused _
  | cfgmask idx v =>
    by_cases hphase : s.phase = .config
    · rw [exec_cfgmask_of_config hphase]
      exact .next rfl
    · rw [exec_cfgmask_of_not_config hphase]
      exact .fault _
  | start =>
    rw [exec_start]
    split
    · exact .next rfl
    · exact .refused _
    · exact .refused _

/-- The disarm write reaches the programmable COP alone (R202). -/
theorem exec_wrCoprst_keeps (data : Byte) (s : State) :
    Keeps (fun u => (u.timer, u.ncop)) s (exec (.wrCoprst data) s) :=
  .running (by split <;> rfl)

/-- WRCOPR reaches the non-programmable COP alone (R220). -/
theorem exec_wrcopr_keeps (data : Byte) (s : State) :
    Keeps (fun u => (u.timer, u.pcop)) s (exec (.wrcopr data) s) :=
  .running (by split <;> rfl)

/-! ### The statement -/

/-- Settles O41: of the operations that may move a counter only the disarm write and WRCOPR are left, each with the counter
that the statement excepts. -/
theorem nothingAdvancesButInBurns : Obligations.NothingAdvancesButInBurns := by
  intro i s t hnext hburn hservice hreset
  cases hmove : movesCounter i with
  | false =>
    obtain ⟨hcounter, hprescaler, hpcop, hncop⟩ := (State.counters_eq_iff s t).mp (exec_keeps_counters hmove s t hnext)
    exact ⟨hcounter, hprescaler, fun _ => hpcop, fun _ => hncop⟩
  | true =>
    cases i with
    | burn n => exact absurd rfl (hburn n)
    | service => exact absurd rfl hservice
    | reset fuse => exact absurd rfl (hreset fuse)
    | wrCoprst data =>
      obtain ⟨htimer, hncop⟩ := Prod.mk.inj (exec_wrCoprst_keeps data s t hnext)
      exact ⟨congrArg Timer.counter htimer, congrArg Timer.prescaler htimer, fun h => absurd rfl (h data),
        fun _ => congrArg Ncop.counter hncop⟩
    | wrcopr data =>
      obtain ⟨htimer, hpcop⟩ := Prod.mk.inj (exec_wrcopr_keeps data s t hnext)
      exact ⟨congrArg Timer.counter htimer, congrArg Timer.prescaler htimer, fun _ => congrArg Pcop.counter hpcop,
        fun h => absurd rfl (h data)⟩
    | _ => cases hmove

end Sys2Proof.Machine
end

