-- ==== Sys2Proof/Proofs/Exceptions.lean ====
section
/-! SUPPORT. The exceptions (60_exceptions.md): which operations can be fatal at all, and the one fault of a service entry;
with them the exact condition of `Fatal(1)`. -/

namespace Sys2Proof.Machine

/-! ### An outcome that is not fatal -/

/-- An outcome that is neither of the two fatal conditions (R270): a next state or a refusal. -/
def Faultless (o : Outcome) : Prop := ∀ r, o ≠ .fault r

theorem Faultless.next (t : State) : Faultless (.next t) := by
  rintro _ ⟨⟩

theorem Faultless.refused (why : Refusal) : Faultless (.refused why) := by
  rintro _ ⟨⟩

/-- The legality test refuses, it is never fatal itself (R258). -/
theorem Faultless.guarded {s : State} {o : Outcome} (h : Faultless o) : Faultless (whenRunning s o) :=
  fun r hfault => h r (whenRunning_fault hfault).2

/-- The outcome of most run-time operations: one next state, where the operation is legal. -/
theorem Faultless.running {s t : State} : Faultless (whenRunning s (.next t)) :=
  (Faultless.next t).guarded

/-! ### Who can be fatal -/

/-- The operations that the spec names as raisers of a fault (R271, R272). -/
def raisesFault : Instr → Bool
  | .cfgmask _ _ | .service => true
  | _ => false

/-- No other operation is fatal: an inspection always has a next state, RESET and START have one or are refused, and the
run-time operations have one where they are legal. -/
theorem exec_faultless {i : Instr} (hraise : raisesFault i = false) (s : State) : Faultless (exec i s) := by
  cases i with
  | cfgmask | service => cases hraise
  | peekPorta | peekPortb | peekPortc | peekPortd | peekDdra | peekDdrb | peekDdrc | peekTcr | peekTsr | peekIcrh | peekIcrl
  | peekOcrh | peekOcrl | peekTrh | peekTrl | peekAtrh | peekAtrl | peekCoprst | peekCopcr | peekUnmapped | exportState =>
    exact .next _
  | start =>
    rw [exec_start]
    split
    · exact .next _
    · exact .refused _
    · exact .refused _
  | reset fuse =>
    rw [exec_reset]
    split
    · exact .refused _
    · exact .next _
    · exact .next _
  | irq line =>
    rw [exec_irq]
    split
    · exact .running
    · exact .refused _
  | _ => exact .running

/-- A fatal service entry is `Fatal(2)` (R272). -/
theorem serviceEntry_fault {s : State} {r : Fault} (h : serviceEntry s = .fault r) : r = .arbiterInvariant := by
  unfold serviceEntry at h
  split at h
  · cases h
    rfl
  · split at h
    · cases h
      rfl
    · cases h

theorem exec_service_fault {s : State} {r : Fault} (h : exec .service s = .fault r) : r = .arbiterInvariant := by
  rw [exec_service] at h
  exact serviceEntry_fault (whenRunning_fault h).2

/-- CFGMASK is fatal only after START (R271); `exec_cfgmask_of_not_config` is the converse. -/
theorem exec_cfgmask_fault {s : State} {idx : PortId} {v : Byte} {r : Fault} (h : exec (.cfgmask idx v) s = .fault r) :
    s.phase ≠ .config := by
  intro hconfig
  rw [exec_cfgmask_of_config hconfig] at h
  cases h

/-! ### The statement -/

/-- CONFIG is the phase before START; the two others come after it (R45). -/
theorem phase_ne_config_iff (p : Phase) : p ≠ .config ↔ p = .started ∨ p = .running := by
  cases p <;> decide

/-- Settles O8: of the two operations that can be fatal SERVICE raises the other fault, and CFGMASK raises this one exactly
outside CONFIG. -/
theorem configOrderFaultExactly : Obligations.ConfigOrderFaultExactly := by
  intro i s
  rw [← phase_ne_config_iff]
  constructor
  · intro hfault
    cases hraise : raisesFault i with
    | false => exact absurd hfault (exec_faultless hraise s .configOrder)
    | true =>
      cases i with
      | cfgmask idx v => exact ⟨⟨idx, v, rfl⟩, exec_cfgmask_fault hfault⟩
      | service => cases exec_service_fault hfault
      | _ => cases hraise
  · rintro ⟨⟨idx, v, rfl⟩, hphase⟩
    exact exec_cfgmask_of_not_config hphase idx v

end Sys2Proof.Machine
end

section
/-! SUPPORT. The operation words (30_encoding.md): what each format decodes to, what a word with no must-be-zero bit is, and the
statements of the encoding settled with them. -/

namespace Sys2Proof

/-! ### What each format decodes to -/

theorem decode_readWord (cfg : Config) (off : BitVec 5) : decode cfg (busWord 0#4 off 0#8) = .ok (rdAt cfg off) := by
  simp [decode, readWord_mustBeZero]

theorem decode_writeWord (cfg : Config) (off : BitVec 5) (data : Byte) :
    decode cfg (busWord 1#4 off data) = .ok (wrAt cfg off data) := by
  simp [decode, writeWord_mustBeZero]

theorem decode_inspectWord (cfg : Config) (off : BitVec 5) :
    decode cfg (busWord 2#4 off 0#8) = .ok (peekAt cfg off) := by
  simp [decode, inspectWord_mustBeZero]

theorem decode_cyclesWord (cfg : Config) (n : Half) : decode cfg (cyclesWord n) = .ok (.burn n) := by
  simp [decode, cyclesWord_mustBeZero]

theorem decode_captureWord (cfg : Config) (rising : Bool) : decode cfg (bitWord 4#4 rising) = .ok (.tcap rising) := by
  simp [decode, captureWord_mustBeZero]

theorem decode_resetWord (cfg : Config) (fuse : Bool) : decode cfg (bitWord 6#4 fuse) = .ok (.reset fuse) := by
  simp [decode, resetWord_mustBeZero]

theorem decode_lineWord {cfg : Config} {line : Fin 8} (h : line < cfg.nExt) :
    decode cfg (lineWord line) = .ok (.irq line) := by
  simp [decode, lineWord_mustBeZero, h]

theorem decode_pinWord (cfg : Config) (idx : PortId) (v : Byte) : decode cfg (portWord 8#4 idx v) = .ok (.pin idx v) := by
  simp [decode, pinWord_mustBeZero]

theorem decode_maskWord (cfg : Config) (idx : PortId) (v : Byte) :
    decode cfg (portWord 10#4 idx v) = .ok (.cfgmask idx v) := by
  simp [decode, maskWord_mustBeZero]

theorem decode_dataWord (cfg : Config) (data : Byte) : decode cfg (dataWord data) = .ok (.wrcopr data) := by
  simp [decode, dataWord_mustBeZero]

/-! ### The register map -/

/-- The offsets of R62 and R63, written out. -/
theorem listed_iff (cfg : Config) (off : BitVec 5) :
    listed cfg off = true ↔
      off ∈ [0x00#5, 0x01#5, 0x02#5, 0x03#5, 0x04#5, 0x05#5, 0x06#5, 0x12#5, 0x13#5, 0x14#5, 0x15#5, 0x16#5, 0x17#5, 0x18#5,
          0x19#5, 0x1A#5, 0x1B#5]
        ∨ cfg.hasPcop = true ∧ off ∈ [0x1D#5, 0x1E#5] := by
  unfold listed
  generalize cfg.hasPcop = present
  revert present off
  decide

theorem listed_eq_false_iff (cfg : Config) (off : BitVec 5) :
    listed cfg off = false ↔
      6 < off.toNat ∧ (off.toNat < 0x12 ∨ 0x1B < off.toNat)
        ∧ (cfg.hasPcop = true → off.toNat ≠ 0x1D ∧ off.toNat ≠ 0x1E) := by
  cases hp : cfg.hasPcop <;> simp [listed, hp, BitVec.le_def, ← BitVec.toNat_inj] <;> omega

section
variable {cfg : Config} {off : BitVec 5} (h : listed cfg off = false)
include h

theorem rdAt_of_unlisted : rdAt cfg off = .rdUnmapped off := by
  obtain ⟨hlow, hmid, hcop⟩ := (listed_eq_false_iff cfg off).mp h
  unfold rdAt
  split <;> first | rfl | omega | exact if_neg fun hp => by have := hcop hp; omega

theorem wrAt_of_unlisted (data : Byte) : wrAt cfg off data = .wrUnmapped off data := by
  obtain ⟨hlow, hmid, hcop⟩ := (listed_eq_false_iff cfg off).mp h
  unfold wrAt
  split <;> first | rfl | omega | exact if_neg fun hp => by have := hcop hp; omega

theorem peekAt_of_unlisted : peekAt cfg off = .peekUnmapped off := by
  obtain ⟨hlow, hmid, hcop⟩ := (listed_eq_false_iff cfg off).mp h
  unfold peekAt
  split <;> first | rfl | omega | exact if_neg fun hp => by have := hcop hp; omega

end

/-- The three operations of an offset spell words of format B with that offset, and exist on the variant (R93, R107). -/
theorem encode_registerMap (cfg : Config) (off : BitVec 5) (data : Byte) :
    (encode (rdAt cfg off) = busWord 0#4 off 0#8 ∧ (rdAt cfg off).wellFormed cfg = true)
      ∧ (encode (wrAt cfg off data) = busWord 1#4 off data ∧ (wrAt cfg off data).wellFormed cfg = true)
      ∧ (encode (peekAt cfg off) = busWord 2#4 off 0#8 ∧ (peekAt cfg off).wellFormed cfg = true) := by
  cases hl : listed cfg off with
  | false =>
    simp [rdAt_of_unlisted hl, wrAt_of_unlisted hl, peekAt_of_unlisted hl, encode, Instr.wellFormed, hl]
  | true =>
    simp only [listed_iff, List.mem_cons, List.not_mem_nil, or_false] at hl
    obtain hfixed | ⟨hpcop, rfl | rfl⟩ := hl
    · rcases hfixed with rfl | rfl | rfl | rfl | rfl | rfl | rfl | rfl | rfl | rfl | rfl | rfl | rfl | rfl | rfl | rfl | rfl <;>
        exact ⟨⟨rfl, rfl⟩, ⟨rfl, rfl⟩, rfl, rfl⟩
    · simp [rdAt, wrAt, peekAt, hpcop, encode, Instr.wellFormed]
    · simp [rdAt, wrAt, peekAt, hpcop, encode, Instr.wellFormed]

/-! ### A word is made of its fields -/

theorem and_eq_zero_iff_getLsbD (x y : OpWord) :
    x &&& y = 0#24 ↔ ∀ b < 24, y.getLsbD b = true → x.getLsbD b = false := by
  rw [BitVec.eq_of_getLsbD_eq_iff]
  refine forall₂_congr fun b _ => ?_
  cases hy : y.getLsbD b <;> simp [hy]

/-- Two words of one kind are the same if they agree on the bits below it, where `w` has no bit of `mask`. -/
theorem eq_of_fields_eq {w v mask : OpWord} (hk : kindOf w = kindOf v) (hz : w &&& mask = 0#24)
    (hfields : ∀ b < 20, (mask.getLsbD b = true → w.getLsbD b = false) → w.getLsbD b = v.getLsbD b) : w = v := by
  rw [and_eq_zero_iff_getLsbD] at hz
  apply BitVec.eq_of_getLsbD_eq
  intro b hb
  by_cases hlow : b < 20
  · exact hfields b hlow (hz b hb)
  · have hkind : (kindOf w).getLsbD (b - 20) = (kindOf v).getLsbD (b - 20) := by rw [hk]
    have hidx : 20 + (b - 20) = b := by omega
    have hlt : b - 20 < 4 := by omega
    simpa [kindOf, hidx, hlt] using hkind

theorem eq_busWord {w : OpWord} (hz : w &&& 0x0FE000#24 = 0#24) : w = busWord (kindOf w) (offOf w) (dataOf w) := by
  refine eq_of_fields_eq (kindOf_busWord ..).symm hz fun b hb hclear => ?_
  rw [busWord_getLsbD]
  revert hclear
  interval_cases b <;> simp [offOf, dataOf]

theorem eq_busWord_of_no_data {w : OpWord} (hz : w &&& 0x0FE0FF#24 = 0#24) :
    w = busWord (kindOf w) (offOf w) 0#8 := by
  refine eq_of_fields_eq (kindOf_busWord ..).symm hz fun b hb hclear => ?_
  rw [busWord_getLsbD]
  revert hclear
  interval_cases b <;> simp [offOf]

theorem eq_cyclesWord {w : OpWord} (hk : kindOf w = 0x3#4) (hz : w &&& 0x0F0000#24 = 0#24) :
    w = cyclesWord (cyclesOf w) := by
  refine eq_of_fields_eq (hk.trans (kindOf_cyclesWord _).symm) hz fun b hb hclear => ?_
  rw [cyclesWord_getLsbD]
  revert hclear
  interval_cases b <;> simp [cyclesOf]

theorem eq_bitWord {w : OpWord} (hz : w &&& 0x0FFFFE#24 = 0#24) : w = bitWord (kindOf w) (bitOf w) := by
  refine eq_of_fields_eq (kindOf_bitWord ..).symm hz fun b hb hclear => ?_
  rw [bitWord_getLsbD]
  revert hclear
  interval_cases b <;> simp [bitOf]

theorem lineWord_getLsbD (line : Fin 8) (i : Nat) :
    (lineWord line).getLsbD i =
      if i < 8 then false else if i < 11 then (BitVec.ofFin line : BitVec 3).getLsbD (i - 8) else if i < 20 then false
        else (0x5#4).getLsbD (i - 20) := by
  change BitVec.getLsbD (w := 4 + 9 + 3 + 8) (0x5#4 ++ 0#9 ++ (BitVec.ofFin line : BitVec 3) ++ 0#8) i = _
  simp only [BitVec.getLsbD_append, BitVec.getLsbD_zero]
  split_ifs <;> first | rfl | omega

theorem eq_lineWord {w : OpWord} (hk : kindOf w = 0x5#4) (hz : w &&& 0x0FF8FF#24 = 0#24) : w = lineWord (lineOf w) := by
  refine eq_of_fields_eq (hk.trans (kindOf_lineWord _).symm) hz fun b hb hclear => ?_
  rw [lineWord_getLsbD, show BitVec.ofFin (lineOf w) = w.extractLsb' 8 3 from rfl]
  revert hclear
  interval_cases b <;> simp

theorem eq_plainWord {w : OpWord} (hz : w &&& 0x0FFFFF#24 = 0#24) : w = plainWord (kindOf w) := by
  refine eq_of_fields_eq (kindOf_plainWord _).symm hz fun b hb hclear => ?_
  rw [plainWord_getLsbD]
  revert hclear
  interval_cases b <;> simp

theorem PortId.code_ofCode (c : BitVec 2) : (PortId.ofCode c).code = c := by
  revert c
  decide

theorem eq_portWord {w : OpWord} (hz : w &&& 0x0FFC00#24 = 0#24) : w = portWord (kindOf w) (portOf w) (dataOf w) := by
  refine eq_of_fields_eq (kindOf_portWord ..).symm hz fun b hb hclear => ?_
  rw [portWord_getLsbD, portOf, PortId.code_ofCode]
  revert hclear
  interval_cases b <;> simp [dataOf]

theorem eq_dataWord {w : OpWord} (hk : kindOf w = 0x9#4) (hz : w &&& 0x0FFF00#24 = 0#24) : w = dataWord (dataOf w) := by
  refine eq_of_fields_eq (hk.trans (kindOf_dataWord _).symm) hz fun b hb hclear => ?_
  rw [dataWord_getLsbD]
  revert hclear
  interval_cases b <;> simp [dataOf]

/-! ### The words that spell nothing -/

theorem kind_cases (k : BitVec 4) :
    k = 0x0#4 ∨ k = 0x1#4 ∨ k = 0x2#4 ∨ k = 0x3#4 ∨ k = 0x4#4 ∨ k = 0x5#4 ∨ k = 0x6#4 ∨ k = 0x7#4 ∨ k = 0x8#4 ∨ k = 0x9#4
      ∨ k = 0xA#4 ∨ k = 0xB#4 ∨ k = 0xC#4 ∨ k = 0xD#4 ∨ k = 0xE#4 ∨ k = 0xF#4 := by
  revert k
  decide

theorem decode_eq_error_iff (cfg : Config) (w : OpWord) :
    (∃ why, decode cfg w = .error why) ↔
      w &&& mustBeZero (kindOf w) ≠ 0#24 ∨ 0xD#4 ≤ kindOf w ∨ kindOf w = 0x5#4 ∧ cfg.nExt ≤ lineOf w := by
  by_cases hz : w &&& mustBeZero (kindOf w) = 0#24
  · rcases kind_cases (kindOf w) with hk | hk | hk | hk | hk | hk | hk | hk | hk | hk | hk | hk | hk | hk | hk | hk <;>
      rw [hk] at hz <;> simp [decode, hk, hz]
    -- an IRQ word, with its line
    rw [← not_lt]
    split <;> simp [*]
  · simp [decode, hz]

/-- The word with ones at the bits `start` to `start + len - 1`. -/
def sliceMask (start len : Nat) : OpWord := (BitVec.allOnes len).setWidth 24 <<< start

theorem sliceMask_getLsbD (start len b : Nat) (hb : b < 24) :
    (sliceMask start len).getLsbD b = decide (start ≤ b ∧ b < start + len) := by
  rw [sliceMask, BitVec.getLsbD_shiftLeft, BitVec.getLsbD_setWidth, BitVec.getLsbD_allOnes, Bool.eq_iff_iff]
  simp
  omega

theorem and_sliceMask_eq_zero_iff (w : OpWord) {start len : Nat} (h : start + len ≤ 24) :
    w &&& sliceMask start len = 0#24 ↔ w.extractLsb' start len = 0#len := by
  rw [and_eq_zero_iff_getLsbD, BitVec.eq_of_getLsbD_eq_iff]
  constructor
  · intro hw b hb
    have hclear := hw (start + b) (by omega) (by rw [sliceMask_getLsbD _ _ _ (by omega)]; simp [hb])
    simp [hclear]
  · intro hw b hb hmask
    rw [sliceMask_getLsbD _ _ _ hb, decide_eq_true_eq] at hmask
    have hclear := hw (b - start) (by omega)
    simpa [show start + (b - start) = b by omega, show b - start < len by omega] using hclear

/-- A mask of one run of bits. -/
theorem and_mask_ne_zero_iff {w mask : OpWord} {start len : Nat} (hmask : mask = sliceMask start len)
    (h : start + len ≤ 24) : w &&& mask ≠ 0#24 ↔ w.extractLsb' start len ≠ 0#len := by
  rw [hmask, ne_eq, and_sliceMask_eq_zero_iff w h]

/-- A mask of two runs of bits. -/
theorem and_mask_ne_zero_iff_or {w mask : OpWord} {start len start' len' : Nat}
    (hmask : mask = sliceMask start len ||| sliceMask start' len') (h : start + len ≤ 24) (h' : start' + len' ≤ 24) :
    w &&& mask ≠ 0#24 ↔ w.extractLsb' start len ≠ 0#len ∨ w.extractLsb' start' len' ≠ 0#len' := by
  rw [hmask, ne_eq, BitVec.and_or_distrib_left, BitVec.or_eq_zero_iff, and_sliceMask_eq_zero_iff w h,
    and_sliceMask_eq_zero_iff w h', not_and_or]

/-- The must-be-zero bits of each kind, as the runs of bits between its fields (R93 to R98). -/
theorem and_mustBeZero_ne_zero_iff (w : OpWord) (k : BitVec 4) :
    w &&& mustBeZero k ≠ 0#24 ↔
      ((k = 0x0#4 ∨ k = 0x2#4) ∧ (w.extractLsb' 13 7 ≠ 0#7 ∨ w.extractLsb' 0 8 ≠ 0#8)
        ∨ k = 0x1#4 ∧ w.extractLsb' 13 7 ≠ 0#7
        ∨ k = 0x3#4 ∧ w.extractLsb' 16 4 ≠ 0#4
        ∨ (k = 0x4#4 ∨ k = 0x6#4) ∧ w.extractLsb' 1 19 ≠ 0#19
        ∨ k = 0x5#4 ∧ (w.extractLsb' 11 9 ≠ 0#9 ∨ w.extractLsb' 0 8 ≠ 0#8)
        ∨ (k = 0x7#4 ∨ k = 0xB#4 ∨ k = 0xC#4) ∧ w.extractLsb' 0 20 ≠ 0#20
        ∨ (k = 0x8#4 ∨ k = 0xA#4) ∧ w.extractLsb' 10 10 ≠ 0#10
        ∨ k = 0x9#4 ∧ w.extractLsb' 8 12 ≠ 0#12) := by
  have hread := and_mask_ne_zero_iff_or (w := w) (mask := 0x0FE0FF#24) (show _ = sliceMask 13 7 ||| sliceMask 0 8 by decide)
    (by decide) (by decide)
  have hwrite := and_mask_ne_zero_iff (w := w) (mask := 0x0FE000#24) (show _ = sliceMask 13 7 by decide) (by decide)
  have hcycles := and_mask_ne_zero_iff (w := w) (mask := 0x0F0000#24) (show _ = sliceMask 16 4 by decide) (by decide)
  have hbit := and_mask_ne_zero_iff (w := w) (mask := 0x0FFFFE#24) (show _ = sliceMask 1 19 by decide) (by decide)
  have hline := and_mask_ne_zero_iff_or (w := w) (mask := 0x0FF8FF#24) (show _ = sliceMask 11 9 ||| sliceMask 0 8 by decide)
    (by decide) (by decide)
  have hplain := and_mask_ne_zero_iff (w := w) (mask := 0x0FFFFF#24) (show _ = sliceMask 0 20 by decide) (by decide)
  have hport := and_mask_ne_zero_iff (w := w) (mask := 0x0FFC00#24) (show _ = sliceMask 10 10 by decide) (by decide)
  have hdata := and_mask_ne_zero_iff (w := w) (mask := 0x0FFF00#24) (show _ = sliceMask 8 12 by decide) (by decide)
  rcases kind_cases k with rfl | rfl | rfl | rfl | rfl | rfl | rfl | rfl | rfl | rfl | rfl | rfl | rfl | rfl | rfl | rfl <;>
    simp [mustBeZero, -ne_eq, hread, hwrite, hcycles, hbit, hline, hplain, hport, hdata]

/-! ### The statements -/

/-- Settles O1: the word of each operation is one of its format, and the register map gives the operation of the offset. -/
theorem decodeOfEncode : Obligations.DecodeOfEncode := by
  intro cfg i hwf
  cases i with
  | rdUnmapped off => rw [encode, decode_readWord, rdAt_of_unlisted (by simpa [Instr.wellFormed] using hwf)]
  | wrUnmapped off data => rw [encode, decode_writeWord, wrAt_of_unlisted (by simpa [Instr.wellFormed] using hwf)]
  | peekUnmapped off => rw [encode, decode_inspectWord, peekAt_of_unlisted (by simpa [Instr.wellFormed] using hwf)]
  | rdCoprst | rdCopcr =>
    rw [Instr.wellFormed] at hwf
    simp [encode, decode_readWord, rdAt, hwf]
  | wrCoprst | wrCopcr =>
    rw [Instr.wellFormed] at hwf
    simp [encode, decode_writeWord, wrAt, hwf]
  | peekCoprst | peekCopcr =>
    rw [Instr.wellFormed] at hwf
    simp [encode, decode_inspectWord, peekAt, hwf]
  | rdPorta | rdPortb | rdPortc | rdPortd | rdDdra | rdDdrb | rdDdrc | rdTcr | rdTsr | rdIcrh | rdIcrl | rdOcrh | rdOcrl
  | rdTrh | rdTrl | rdAtrh | rdAtrl => exact decode_readWord cfg _
  | wrPorta | wrPortb | wrPortc | wrPortd | wrDdra | wrDdrb | wrDdrc | wrTcr | wrTsr | wrIcrh | wrIcrl | wrOcrh | wrOcrl
  | wrTrh | wrTrl | wrAtrh | wrAtrl => exact decode_writeWord cfg _ _
  | peekPorta | peekPortb | peekPortc | peekPortd | peekDdra | peekDdrb | peekDdrc | peekTcr | peekTsr | peekIcrh | peekIcrl
  | peekOcrh | peekOcrl | peekTrh | peekTrl | peekAtrh | peekAtrl => exact decode_inspectWord cfg _
  | burn n => exact decode_cyclesWord cfg n
  | tcap rising => exact decode_captureWord cfg rising
  | irq line => exact decode_lineWord (by simpa [Instr.wellFormed] using hwf)
  | reset fuse => exact decode_resetWord cfg fuse
  | pin idx v => exact decode_pinWord cfg idx v
  | wrcopr data => exact decode_dataWord cfg data
  | cfgmask idx v => exact decode_maskWord cfg idx v
  | service | start | exportState => rfl

/-- Settles O2: a word that decodes has no must-be-zero bit, so it is made of its kind and the fields that were decoded. -/
theorem encodeOfDecode : Obligations.EncodeOfDecode := by
  intro cfg w i h
  by_cases hz : w &&& mustBeZero (kindOf w) = 0#24
  swap
  · simp [decode, hz] at h
  obtain ⟨hrd, hwr, hpeek⟩ := encode_registerMap cfg (offOf w) (dataOf w)
  rcases kind_cases (kindOf w) with hk | hk | hk | hk | hk | hk | hk | hk | hk | hk | hk | hk | hk | hk | hk | hk <;>
    rw [hk] at hz <;> simp [decode, hk, hz] at h
  case inr.inr.inr.inr.inr.inl =>
    split at h
    · next hline =>
      cases h
      exact ⟨(eq_lineWord hk hz).symm, by simpa [Instr.wellFormed] using hline⟩
    · cases h
  all_goals subst h
  · exact ⟨hrd.1.trans (hk ▸ (eq_busWord_of_no_data hz).symm), hrd.2⟩
  · exact ⟨hwr.1.trans (hk ▸ (eq_busWord hz).symm), hwr.2⟩
  · exact ⟨hpeek.1.trans (hk ▸ (eq_busWord_of_no_data hz).symm), hpeek.2⟩
  · exact ⟨(eq_cyclesWord hk hz).symm, rfl⟩
  · exact ⟨(hk ▸ (eq_bitWord hz).symm : bitWord 0x4#4 (bitOf w) = w), rfl⟩
  · exact ⟨(hk ▸ (eq_bitWord hz).symm : bitWord 0x6#4 (bitOf w) = w), rfl⟩
  · exact ⟨(hk ▸ (eq_plainWord hz).symm : plainWord 0x7#4 = w), rfl⟩
  · exact ⟨(hk ▸ (eq_portWord hz).symm : portWord 0x8#4 (portOf w) (dataOf w) = w), rfl⟩
  · exact ⟨(eq_dataWord hk hz).symm, rfl⟩
  · exact ⟨(hk ▸ (eq_portWord hz).symm : portWord 0xA#4 (portOf w) (dataOf w) = w), rfl⟩
  · exact ⟨(hk ▸ (eq_plainWord hz).symm : plainWord 0xB#4 = w), rfl⟩
  · exact ⟨(hk ▸ (eq_plainWord hz).symm : plainWord 0xC#4 = w), rfl⟩

/-- Settles O3: of the three reasons to reject a word, the must-be-zero bits are read off kind by kind. -/
theorem invalidWordsExactly : Obligations.InvalidWordsExactly := by
  intro cfg w
  have hline : cfg.nExt ≤ lineOf w ↔ cfg.nExt.val ≤ (w.extractLsb' 8 3).toNat := Iff.rfl
  rw [decode_eq_error_iff, and_mustBeZero_ne_zero_iff, hline, kindOf]
  rcases kind_cases (w.extractLsb' 20 4) with h | h | h | h | h | h | h | h | h | h | h | h | h | h | h | h <;>
    simp [h, or_assoc]

/-- Settles O4: each word is run through the decoder; the offset 0x1D is decided by HAS_PCOP, the line by N_EXT. -/
theorem sampleWordsDecode : Obligations.SampleWordsDecode := by
  refine ⟨fun cfg => ⟨rfl, rfl, rfl, rfl, rfl, rfl, rfl, rfl, rfl, rfl, rfl, rfl, rfl⟩, fun cfg hp => ?_, fun cfg hp => ?_,
    fun cfg hline => decode_lineWord hline⟩
  · exact (decode_writeWord cfg 0x1D#5 0x55#8).trans (by simp [wrAt, hp])
  · exact (decode_writeWord cfg 0x1D#5 0x55#8).trans (by simp [wrAt, hp])

end Sys2Proof
end

section
/-! SUPPORT. All an applied operation can do, said once for the seventy operations: the effects, each with the operations that
have it. Every statement over all operations is a case split over these effects. -/

namespace Sys2Proof.Machine

/-! ### What the effects do to each field -/

section
variable (s : State)

@[simp] theorem readPort_cfg (i : PortId) : (readPort i s).cfg = s.cfg := rfl
@[simp] theorem readPort_ports (i : PortId) :
    (readPort i s).ports = s.ports.set i (samplePins (s.cfg.inConn.get i) (s.port i)) := rfl
@[simp] theorem readPort_timer (i : PortId) : (readPort i s).timer = s.timer := rfl
@[simp] theorem readPort_pcop (i : PortId) : (readPort i s).pcop = s.pcop := rfl
@[simp] theorem readPort_ncop (i : PortId) : (readPort i s).ncop = s.ncop := rfl
@[simp] theorem readPort_pending (i : PortId) : (readPort i s).pending = s.pending := rfl
@[simp] theorem readPort_resetPending (i : PortId) : (readPort i s).resetPending = s.resetPending := rfl
@[simp] theorem readPort_phase (i : PortId) : (readPort i s).phase = s.phase := rfl
@[simp] theorem readPort_trace (i : PortId) : (readPort i s).trace = s.trace := rfl
@[simp] theorem readPort_results (i : PortId) :
    (readPort i s).results = s.results ++ [.data (compose (samplePins (s.cfg.inConn.get i) (s.port i)))] := rfl
@[simp] theorem readPort_draws (i : PortId) : (readPort i s).draws = s.draws := rfl
@[simp] theorem readPort_ops (i : PortId) : (readPort i s).ops = s.ops := rfl

@[simp] theorem capture_cfg : (capture s).cfg = s.cfg := rfl
@[simp] theorem capture_ports : (capture s).ports = s.ports := rfl
@[simp] theorem capture_timer :
    (capture s).timer = { s.timer with inputCaptureReg := s.timer.counter, tsr := s.timer.tsr ||| 0x80#8 } := rfl
@[simp] theorem capture_pcop : (capture s).pcop = s.pcop := rfl
@[simp] theorem capture_ncop : (capture s).ncop = s.ncop := rfl
@[simp] theorem capture_resetPending : (capture s).resetPending = s.resetPending := rfl
@[simp] theorem capture_phase : (capture s).phase = s.phase := rfl
@[simp] theorem capture_trace : (capture s).trace = s.trace := rfl
@[simp] theorem capture_results : (capture s).results = s.results := rfl
@[simp] theorem capture_draws : (capture s).draws = s.draws := rfl
@[simp] theorem capture_ops : (capture s).ops = s.ops := rfl
@[simp] theorem capture_pending :
    (capture s).pending =
      putBit s.pending s.cfg.nExt.val (decide (s.timer.tcr &&& (s.timer.tsr ||| 0x80#8) &&& 0xE0#8 ≠ 0#8)) := by
  rw [capture, State.recomputeTimerPending_pending, timerEvent_eq]
  rfl

@[simp] theorem deviceReset_cfg (fuse : Bool) : (deviceReset fuse s).cfg = s.cfg := rfl
@[simp] theorem deviceReset_ports (fuse : Bool) :
    (deviceReset fuse s).ports = s.ports.map fun p => { p with direction := 0 } := rfl
@[simp] theorem deviceReset_timer (fuse : Bool) : (deviceReset fuse s).timer = resetTimer s.cfg s.timer := rfl
@[simp] theorem deviceReset_pcop (fuse : Bool) :
    (deviceReset fuse s).pcop = if s.cfg.hasPcop then resetPcop s.pcop else s.pcop := rfl
@[simp] theorem deviceReset_ncop (fuse : Bool) :
    (deviceReset fuse s).ncop = if s.cfg.hasNcop then { counter := 0, enabled := fuse } else s.ncop := rfl
@[simp] theorem deviceReset_resetPending (fuse : Bool) : (deviceReset fuse s).resetPending = false := rfl
@[simp] theorem deviceReset_phase (fuse : Bool) : (deviceReset fuse s).phase = .running := rfl
@[simp] theorem deviceReset_trace (fuse : Bool) : (deviceReset fuse s).trace = s.trace := rfl
@[simp] theorem deviceReset_results (fuse : Bool) : (deviceReset fuse s).results = s.results := rfl
@[simp] theorem deviceReset_draws (fuse : Bool) : (deviceReset fuse s).draws = s.draws := rfl
@[simp] theorem deviceReset_ops (fuse : Bool) : (deviceReset fuse s).ops = s.ops := rfl
@[simp] theorem deviceReset_pending (fuse : Bool) : (deviceReset fuse s).pending = 0#8 := by
  rw [deviceReset_eq]

@[simp] theorem State.clearIfSeen_tsr (f : TimerFlag) :
    (s.clearIfSeen f).timer.tsr =
      if s.timer.statusSeen.getLsbD f.bit then s.timer.tsr &&& ~~~f.mask else s.timer.tsr := by
  rw [State.clearIfSeen_timer]
@[simp] theorem State.clearIfSeen_captureInhibited (f : TimerFlag) :
    (s.clearIfSeen f).timer.captureInhibited = s.timer.captureInhibited := by
  rw [State.clearIfSeen_timer]
@[simp] theorem State.clearIfSeen_compareInhibited (f : TimerFlag) :
    (s.clearIfSeen f).timer.compareInhibited = s.timer.compareInhibited := by
  rw [State.clearIfSeen_timer]

end

/-! ### A property of the next state of an outcome -/

/-- An outcome that, if it is a next state, is one with the property `P`. -/
def NextMeets (P : State → Prop) (o : Outcome) : Prop := ∀ t, o = .next t → P t

section
variable {P : State → Prop} {s t : State}

theorem NextMeets.next (h : P t) : NextMeets P (.next t) := by
  rintro _ ⟨⟩
  exact h

theorem NextMeets.refused (why : Refusal) : NextMeets P (.refused why) := by
  rintro _ ⟨⟩

theorem NextMeets.fault (why : Fault) : NextMeets P (.fault why) := by
  rintro _ ⟨⟩

/-- A run-time operation is applied where it is legal (R258). -/
theorem NextMeets.running (h : s.Running → P t) : NextMeets P (whenRunning s (.next t)) := by
  intro u hu
  obtain ⟨hrun, hnext⟩ := whenRunning_next hu
  cases hnext
  exact h hrun

end

/-! ### The effects -/

/-- The operations that can leave every element of the block as it was: inspection, the reads without a side effect, the
absorbed writes, and the four that act under a condition on the variant, the line or the data. -/
def mayBeQuiet : Instr → Bool
  | .rdPorta | .rdPortb | .rdPortc | .rdPortd | .wrPorta _ | .wrPortb _ | .wrPortc _ | .wrPortd _ | .wrDdra _ | .wrDdrb _
  | .wrDdrc _ | .pin _ _ | .cfgmask _ _ | .start | .wrTcr _ | .rdTsr | .rdIcrh | .rdIcrl | .wrOcrh _ | .wrOcrl _ | .rdTrh
  | .rdTrl | .rdAtrh | .rdAtrl | .burn _ | .irq _ | .service | .reset _ => false
  | _ => true

/-- The accesses that write one timer element and touch no flag of `tsr` (R156, R159, R167, R171, R173, R174). -/
inductive TimerElement (t : Timer) : Instr → Timer → Prop
  | rdTsr : TimerElement t .rdTsr { t with statusSeen := t.statusSeen ||| t.tsr }
  | rdIcrh : TimerElement t .rdIcrh { t with captureInhibited := true }
  | wrOcrh (data : Byte) :
      TimerElement t (.wrOcrh data)
        { t with outputCompareReg := joinBytes data (loByte t.outputCompareReg), compareInhibited := true }
  | rdTrh : TimerElement t .rdTrh { t with trLatch := ⟨loByte t.counter, true⟩ }
  | rdAtrh : TimerElement t .rdAtrh { t with atrLatch := ⟨loByte t.counter, true⟩ }
  | rdAtrl : TimerElement t .rdAtrl { t with atrLatch := { t.atrLatch with latched := false } }

/-- The accesses that end a sequence and then clear their flag if it has been seen (R160, R168, R172). -/
inductive FollowUp (t : Timer) : Instr → TimerFlag → Timer → Prop
  | rdIcrl : FollowUp t .rdIcrl .icf { t with captureInhibited := false }
  | wrOcrl (data : Byte) :
      FollowUp t (.wrOcrl data) .ocf
        { t with outputCompareReg := joinBytes (hiByte t.outputCompareReg) data, compareInhibited := false }
  | rdTrl : FollowUp t .rdTrl .tof { t with trLatch := { t.trLatch with latched := false } }

/-- The accesses of a programmable COP that is present (R202, R204, R205). -/
inductive PcopAccess (s : State) : Instr → Pcop → Prop
  | wrCoprst (data : Byte) : PcopAccess s (.wrCoprst data) (disarmWrite s.cfg.pcopDisarmClear data s.pcop)
  | rdCopcr : PcopAccess s .rdCopcr { s.pcop with copcr := s.pcop.copcr &&& ~~~copfMask }
  | wrCopcr (data : Byte) : PcopAccess s (.wrCopcr data) { s.pcop with copcr := controlWrite data s.pcop.copcr }

/-- `Applied s i t`: the operation `i`, applied at `s`, has one of the effects of the block and leads to `t`. -/
inductive Applied (s : State) : Instr → State → Prop
  /-- Nothing but a response, and perhaps a free byte drawn. -/
  | quiet {i : Instr} {r : Response} {draws : Nat} (hi : mayBeQuiet i = true) (hr : ∀ why, r ≠ .refused why) :
      Applied s i { s with results := s.results ++ [r], draws := draws }
  | readPort (p : PortId) : Applied s (rdPort p) (readPort p s)
  | writeLatch (p : PortId) (data : Byte) (hrun : s.Running) :
      Applied s (wrPort p data) ((writeLatch p data s).respond .done)
  | writeDirection {p : PortId} {rd peek : Instr} {wr : Byte → Instr} (hop : (p, rd, wr, peek) ∈ ddrOps) (data : Byte)
      (hrun : s.Running) : Applied s (wr data) ((writeDirection p data s).respond .done)
  | pin (p : PortId) (v : Byte) : Applied s (.pin p v) ((s.setPort p { s.port p with pinIn := v }).respond .done)
  | cfgmask (p : PortId) (v : Byte) (hphase : s.phase = .config) :
      Applied s (.cfgmask p v) ((s.setPort p { s.port p with physicalMask := v }).respond .done)
  | start (hphase : s.phase = .config) : Applied s .start ({ s with phase := .started }.respond .done)
  | writeControl (data : Byte) :
      Applied s (.wrTcr data)
        (((s.setTimer { s.timer with tcr := data &&& tcrValid }).recomputeTimerPending).respond .done)
  | timerElement {i : Instr} {u : Timer} {r : Response} (hr : ∀ why, r ≠ .refused why)
      (haccess : TimerElement s.timer i u) : Applied s i ((s.setTimer u).respond r)
  | followUp {i : Instr} {f : TimerFlag} {u : Timer} {r : Response} (hr : ∀ why, r ≠ .refused why)
      (haccess : FollowUp s.timer i f u) : Applied s i (((s.setTimer u).clearIfSeen f).respond r)
  | capture (rising : Bool) (hopen : s.timer.captureInhibited = false) :
      Applied s (.tcap rising) ((capture s).respond .done)
  | pcopAccess {i : Instr} {p : Pcop} {r : Response} (hr : ∀ why, r ≠ .refused why)
      (haccess : PcopAccess s i p) : Applied s i ((s.setPcop p).respond r)
  | clearNcop (data : Byte) : Applied s (.wrcopr data) ((s.setNcop { s.ncop with counter := 0 }).respond .done)
  | burn (n : Half) (hrun : s.Running) : Applied s (.burn n) ((burnAll n.toNat s).respond .done)
  | irq (line : Fin 8) (hline : line < s.cfg.nExt) :
      Applied s (.irq line) ({ s with pending := putBit s.pending line.val true }.respond .done)
  | service (src : Source) (hrun : s.Running) (hpick : pickSource s.cfg s.pending = some src) :
      Applied s .service ((burnAll s.cfg.intAckCycles.toNat (enterService src s)).respond .done)
  | reset (fuse : Bool) (hphase : s.phase ≠ .config) : Applied s (.reset fuse) ((deviceReset fuse s).respond .done)

/-- An applied operation has one of the effects: operation by operation. -/
theorem exec_nextMeets_applied (i : Instr) (s : State) : NextMeets (Applied s i) (exec i s) := by
  cases i with
  | rdPorta => exact .running fun _ => .readPort .a
  | rdPortb => exact .running fun _ => .readPort .b
  | rdPortc => exact .running fun _ => .readPort .c
  | rdPortd => exact .running fun _ => .readPort .d
  | wrPorta data => exact .running (.writeLatch .a data)
  | wrPortb data => exact .running (.writeLatch .b data)
  | wrPortc data => exact .running (.writeLatch .c data)
  | wrPortd data => exact .running (.writeLatch .d data)
  | wrDdra data => exact .running (.writeDirection (.head _) data)
  | wrDdrb data => exact .running (.writeDirection (.tail _ (.head _)) data)
  | wrDdrc data => exact .running (.writeDirection (.tail _ (.tail _ (.head _))) data)
  | peekPorta | peekPortb | peekPortc | peekPortd | peekDdra | peekDdrb | peekDdrc | peekTcr | peekTsr | peekIcrh | peekIcrl
  | peekOcrh | peekOcrl | peekTrh | peekTrl | peekAtrh | peekAtrl | peekCoprst | peekUnmapped | exportState =>
    exact .next (.quiet rfl nofun)
  | rdDdra | rdDdrb | rdDdrc | rdTcr | rdOcrh | rdOcrl | wrTsr | wrIcrh | wrIcrl | wrTrh | wrTrl | wrAtrh | wrAtrl
  | rdCoprst | rdUnmapped | wrUnmapped => exact .running fun _ => .quiet rfl nofun
  | peekCopcr =>
    refine .next ?_
    split
    · exact .quiet rfl nofun
    · exact .quiet rfl nofun
  | wrTcr data => exact .running fun _ => .writeControl data
  | rdTsr => exact .running fun _ => .timerElement nofun .rdTsr
  | rdIcrh => exact .running fun _ => .timerElement nofun .rdIcrh
  | wrOcrh data => exact .running fun _ => .timerElement nofun (.wrOcrh data)
  | rdTrh => exact .running fun _ => .timerElement nofun .rdTrh
  | rdAtrh => exact .running fun _ => .timerElement nofun .rdAtrh
  | rdAtrl => exact .running fun _ => .timerElement nofun .rdAtrl
  | rdIcrl => exact .running fun _ => .followUp nofun .rdIcrl
  | wrOcrl data => exact .running fun _ => .followUp nofun (.wrOcrl data)
  | rdTrl => exact .running fun _ => .followUp nofun .rdTrl
  | tcap rising =>
    refine .running fun _ => ?_
    split
    · next h => exact .capture rising h.2
    · exact .quiet rfl nofun
  | wrCoprst data =>
    refine .running fun _ => ?_
    split
    · exact .pcopAccess nofun (.wrCoprst data)
    · exact .quiet rfl nofun
  | rdCopcr =>
    refine .running fun _ => ?_
    split
    · exact .pcopAccess nofun .rdCopcr
    · exact .quiet rfl nofun
  | wrCopcr data =>
    refine .running fun _ => ?_
    split
    · exact .pcopAccess nofun (.wrCopcr data)
    · exact .quiet rfl nofun
  | wrcopr data =>
    refine .running fun _ => ?_
    split
    · exact .clearNcop data
    · exact .quiet rfl nofun
  | burn n => exact .running (.burn n)
  | irq line =>
    rw [exec_irq]
    split
    · next hline => exact .running fun _ => .irq line hline
    · exact .refused _
  | service =>
    intro t ht
    obtain ⟨hrun, hentry⟩ := whenRunning_next ht
    obtain ⟨src, hpick, rfl⟩ := serviceEntry_next hentry
    exact .service src hrun hpick
  | pin p v => exact .running fun _ => .pin p v
  | cfgmask p v =>
    by_cases hphase : s.phase = .config
    · rw [exec_cfgmask_of_config hphase]
      exact .next (.cfgmask p v hphase)
    · rw [exec_cfgmask_of_not_config hphase]
      exact .fault _
  | start =>
    rw [exec_start]
    split
    · next hphase => exact .next (.start hphase)
    · exact .refused _
    · exact .refused _
  | reset fuse =>
    rw [exec_reset]
    split
    · exact .refused _
    · next hphase => exact .next (.reset fuse (by simp [hphase]))
    · next hphase => exact .next (.reset fuse (by simp [hphase]))

theorem applied_of_exec {i : Instr} {s t : State} (h : exec i s = .next t) : Applied s i t :=
  exec_nextMeets_applied i s t h

end Sys2Proof.Machine
end

section
/-! SUPPORT. The invariants of the block, unit by unit: each unit's part is kept by every effect, so every step keeps them
all. -/

namespace Sys2Proof.Machine

/-! ### Bytes inside a mask -/

theorem and_compl_eq_zero_iff (x m : Byte) :
    x &&& ~~~m = 0#8 ↔ ∀ b < 8, x.getLsbD b = true → m.getLsbD b = true := by
  rw [BitVec.eq_of_getLsbD_eq_iff]
  refine forall₂_congr fun b hb => ?_
  rw [BitVec.getLsbD_and, BitVec.getLsbD_not, BitVec.getLsbD_zero]
  cases x.getLsbD b <;> cases m.getLsbD b <;> simp [hb]

@[simp] theorem and_and_compl_self (x m : Byte) : x &&& m &&& ~~~m = 0#8 := by
  simp [BitVec.and_assoc]

theorem and_left_and_compl {x m : Byte} (y : Byte) (h : x &&& ~~~m = 0#8) : x &&& y &&& ~~~m = 0#8 := by
  rw [BitVec.and_comm x, BitVec.and_assoc, h, BitVec.and_zero]

theorem or_and_compl {x y m : Byte} (hx : x &&& ~~~m = 0#8) (hy : y &&& ~~~m = 0#8) : (x ||| y) &&& ~~~m = 0#8 := by
  rw [BitVec.and_or_distrib_right, hx, hy, BitVec.or_zero]

/-! ### The parts -/

/-- The ports' part of `Inv`. -/
structure PortsInv (phase : Phase) (ports : Ports Port) : Prop where
  direction_masked : ∀ i, (ports.get i).direction &&& ~~~(ports.get i).physicalMask = 0#8
  portD_input : (ports.get .d).direction = 0#8
  inputs_before_boot : phase ≠ .running → ∀ i, (ports.get i).direction = 0#8

/-- The timer's part of `Inv`, of its control, status and seen mask. -/
structure TimerInv (tcr tsr seen : Byte) : Prop where
  tcr_valid : tcr &&& ~~~0xE3#8 = 0#8
  tsr_valid : tsr &&& ~~~0xE0#8 = 0#8
  seen_set : seen &&& ~~~tsr = 0#8

/-- The programmable COP's part of `Inv`. -/
structure PcopInv (p : Pcop) : Prop where
  copcr_valid : p.copcr &&& ~~~0x17#8 = 0#8
  stage_legal : p.disarmStage = 0#8 ∨ p.disarmStage = 1#8

/-- The arbiter's part of `Inv`, with the control and status that the timer's pending bit is a function of. -/
structure PendingInv (cfg : Config) (pending tcr tsr : Byte) : Prop where
  pending_known : ∀ k < 8, cfg.nExt.val < k → pending.getLsbD k = false
  timer_bit : pending.getLsbD cfg.nExt.val = decide (tcr &&& tsr &&& 0xE0#8 ≠ 0#8)

theorem pending_known_iff (cfg : Config) (pending : Byte) :
    pending &&& ~~~knownMask cfg = 0#8 ↔ ∀ k < 8, cfg.nExt.val < k → pending.getLsbD k = false := by
  rw [and_compl_eq_zero_iff]
  refine forall₂_congr fun k hk => ?_
  rw [knownMask_getLsbD _ _ hk, decide_eq_true_eq, ← not_lt, imp_not_comm, Bool.not_eq_true]

/-- `Inv` is the conjunction of its parts and of R44. -/
theorem inv_iff (s : State) :
    Inv s ↔ PortsInv s.phase s.ports ∧ TimerInv s.timer.tcr s.timer.tsr s.timer.statusSeen ∧ PcopInv s.pcop
      ∧ PendingInv s.cfg s.pending s.timer.tcr s.timer.tsr ∧ (s.resetPending = true → s.phase = .running) := by
  constructor
  · intro h
    exact ⟨⟨h.direction_masked, h.portD_input, h.inputs_before_boot⟩, ⟨h.tcr_valid, h.tsr_valid, h.seen_set⟩,
      ⟨h.copcr_valid, h.stage_legal⟩, ⟨(pending_known_iff ..).mp h.pending_known, h.timer_bit⟩, h.request_running⟩
  · rintro ⟨hports, htimer, hpcop, hpending, hrequest⟩
    exact { hports, htimer, hpcop with
      pending_known := (pending_known_iff ..).mpr hpending.pending_known
      timer_bit := hpending.timer_bit
      request_running := hrequest }

/-! ### The ports -/

section
variable {phase : Phase} {ports : Ports Port}

theorem PortsInv.set (h : PortsInv phase ports) (p : PortId) {q : Port} (hmask : q.direction &&& ~~~q.physicalMask = 0#8)
    (hd : p = .d → q.direction = 0#8) (hboot : phase ≠ .running → q.direction = 0#8) : PortsInv phase (ports.set p q) where
  direction_masked i := by
    rw [Ports.get_set]
    split
    · exact hmask
    · exact h.direction_masked i
  portD_input := by
    rw [Ports.get_set]
    split
    · next hp => exact hd hp.symm
    · exact h.portD_input
  inputs_before_boot hphase i := by
    rw [Ports.get_set]
    split
    · exact hboot hphase
    · exact h.inputs_before_boot hphase i

/-- A new latch, sample or pin level keeps the ports' invariants. -/
theorem PortsInv.set_of_same (h : PortsInv phase ports) (p : PortId) {q : Port}
    (hmask : q.physicalMask = (ports.get p).physicalMask) (hdir : q.direction = (ports.get p).direction) :
    PortsInv phase (ports.set p q) :=
  h.set p (by rw [hmask, hdir]; exact h.direction_masked p) (by rintro rfl; rw [hdir]; exact h.portD_input)
    (fun hphase => by rw [hdir]; exact h.inputs_before_boot hphase p)

/-- With every bit an input the masks and the phase do not matter. -/
theorem PortsInv.of_inputs (h : ∀ i, (ports.get i).direction = 0#8) : PortsInv phase ports where
  direction_masked i := by simp [h i]
  portD_input := h .d
  inputs_before_boot _ := h

end

/-- Port D has no direction register (R131). -/
theorem ne_portD_of_mem_ddrOps {p : PortId} {rd peek : Instr} {wr : Byte → Instr} (h : (p, rd, wr, peek) ∈ ddrOps) :
    p ≠ .d := by
  simp only [ddrOps, List.mem_cons, List.not_mem_nil, or_false, Prod.mk.injEq] at h
  rcases h with ⟨rfl, -⟩ | ⟨rfl, -⟩ | ⟨rfl, -⟩ <;> decide

theorem Applied.portsInv {s t : State} {i : Instr} (happ : Applied s i t) (h : PortsInv s.phase s.ports) :
    PortsInv t.phase t.ports := by
  cases happ with
  | readPort p => exact h.set_of_same p (samplePins_physicalMask ..) (samplePins_direction ..)
  | writeLatch p data hrun =>
    rw [writeLatch_eq]
    exact h.set_of_same p rfl rfl
  | writeDirection hop data hrun =>
    rw [writeDirection_eq]
    exact h.set _ (and_and_compl_self ..) (fun hd => absurd hd (ne_portD_of_mem_ddrOps hop))
      (fun hphase => absurd hrun.1 hphase)
  | pin p v => exact h.set_of_same p rfl rfl
  | cfgmask p v hphase =>
    have hinput : (s.port p).direction = 0#8 := h.inputs_before_boot (by simp [hphase]) p
    exact h.set p (by simp [hinput]) (fun _ => hinput) (fun _ => hinput)
  | start hphase => exact .of_inputs (h.inputs_before_boot (by simp [hphase]))
  | reset fuse hphase => exact .of_inputs fun p => by simp
  | _ => simpa using h

/-! ### The timer -/

/-- A burn sets flags of `tsr` and clears none. -/
theorem burnedTsr_eq_or (n : Nat) (t : Timer) : ∃ set, burnedTsr n t = t.tsr ||| set ∧ set &&& ~~~0xE0#8 = 0#8 := by
  refine ⟨_, BitVec.or_assoc .., or_and_compl ?_ ?_⟩ <;> split <;> decide

section
variable {tcr tsr seen : Byte}

theorem TimerInv.or_tsr (h : TimerInv tcr tsr seen) {set : Byte} (hset : set &&& ~~~0xE0#8 = 0#8) :
    TimerInv tcr (tsr ||| set) seen where
  tcr_valid := h.tcr_valid
  tsr_valid := or_and_compl h.tsr_valid hset
  seen_set := by rw [BitVec.not_or, ← BitVec.and_assoc, h.seen_set, BitVec.zero_and]

theorem TimerInv.burnedTsr {t : Timer} (h : TimerInv tcr t.tsr seen) (n : Nat) : TimerInv tcr (burnedTsr n t) seen := by
  obtain ⟨set, heq, hset⟩ := burnedTsr_eq_or n t
  rw [heq]
  exact h.or_tsr hset

/-- A cleared flag is cleared in the seen mask too (D6). -/
theorem TimerInv.and_tsr (h : TimerInv tcr tsr seen) (keep : Byte) : TimerInv tcr (tsr &&& keep) (seen &&& keep) where
  tcr_valid := h.tcr_valid
  tsr_valid := and_left_and_compl _ h.tsr_valid
  seen_set := by
    have hseen := h.seen_set
    rw [and_compl_eq_zero_iff] at hseen ⊢
    intro b hb hbit
    rw [BitVec.getLsbD_and, Bool.and_eq_true] at hbit ⊢
    exact ⟨hseen b hb hbit.1, hbit.2⟩

end

/-- The accesses that write one timer element touch of the invariant's registers the seen mask alone. -/
theorem TimerElement.timerInv {t u : Timer} {i : Instr} (haccess : TimerElement t i u)
    (h : TimerInv t.tcr t.tsr t.statusSeen) : TimerInv u.tcr u.tsr u.statusSeen := by
  cases haccess with
  | rdTsr => exact ⟨h.tcr_valid, h.tsr_valid, or_and_compl h.seen_set (BitVec.and_not_self _)⟩
  | _ => exact h

theorem Applied.timerInv {s t : State} {i : Instr} (happ : Applied s i t)
    (h : TimerInv s.timer.tcr s.timer.tsr s.timer.statusSeen) : TimerInv t.timer.tcr t.timer.tsr t.timer.statusSeen := by
  cases happ with
  | writeControl data => exact ⟨and_and_compl_self .., h.tsr_valid, h.seen_set⟩
  | timerElement hr haccess => exact haccess.timerInv h
  | @followUp _ f u _ hr haccess =>
    have hu : TimerInv u.tcr u.tsr u.statusSeen := by cases haccess <;> exact h
    cases hseen : u.statusSeen.getLsbD f.bit with
    | true =>
      rw [State.clearIfSeen_of_seen _ _ hseen, State.clearFlag_eq]
      exact hu.and_tsr _
    | false =>
      rw [State.clearIfSeen_of_unseen _ _ hseen]
      exact hu
  | capture rising hopen => exact h.or_tsr (by decide)
  | burn n hrun =>
    rw [State.respond_timer, burnAll_timer]
    exact h.burnedTsr _
  | service src hrun hpick =>
    rw [State.respond_timer, burnAll_timer]
    exact h.burnedTsr _
  | reset fuse hphase => exact ⟨and_left_and_compl _ h.tcr_valid, h.tsr_valid, BitVec.zero_and⟩
  | _ => simpa using h

/-! ### The programmable COP -/

theorem controlWrite_valid {copcr : Byte} (h : copcr &&& ~~~0x17#8 = 0#8) (data : Byte) :
    controlWrite data copcr &&& ~~~0x17#8 = 0#8 := by
  unfold controlWrite
  split
  · exact h
  · refine or_and_compl (or_and_compl (and_left_and_compl _ h) (and_left_and_compl _ h)) ?_
    rw [BitVec.and_assoc, show copcrWritable &&& ~~~0x17#8 = 0#8 by decide, BitVec.and_zero]

/-- The stage after a disarm write is 1 after 0x55 and 0 after any other (R202). -/
theorem disarmWrite_disarmStage (clear : BitVec 21) (data : Byte) (p : Pcop) :
    (disarmWrite clear data p).disarmStage = if data = 0x55#8 then 1#8 else 0#8 := by
  unfold disarmWrite
  split
  · rfl
  · split <;> rfl

@[simp] theorem disarmWrite_copcr (clear : BitVec 21) (data : Byte) (p : Pcop) :
    (disarmWrite clear data p).copcr = p.copcr := by
  unfold disarmWrite
  split
  · rfl
  · split <;> rfl

theorem PcopAccess.pcopInv {s : State} {i : Instr} {p : Pcop} (haccess : PcopAccess s i p) (h : PcopInv s.pcop) :
    PcopInv p := by
  cases haccess with
  | wrCoprst data =>
    refine ⟨?_, ?_⟩
    · rw [disarmWrite_copcr]
      exact h.copcr_valid
    · rw [disarmWrite_disarmStage]
      split
      · exact .inr rfl
      · exact .inl rfl
  | rdCopcr => exact ⟨and_left_and_compl _ h.copcr_valid, h.stage_legal⟩
  | wrCopcr data => exact ⟨controlWrite_valid h.copcr_valid data, h.stage_legal⟩

theorem PcopInv.burnAll {s : State} (h : PcopInv s.pcop) (n : Nat) : PcopInv (burnAll n s).pcop := by
  rw [burnAll_pcop]
  split
  · refine ⟨?_, h.stage_legal⟩
    dsimp only
    split
    · exact or_and_compl h.copcr_valid (by decide)
    · exact h.copcr_valid
  · exact h

theorem Applied.pcopInv {s t : State} {i : Instr} (happ : Applied s i t) (h : PcopInv s.pcop) : PcopInv t.pcop := by
  cases happ with
  | pcopAccess hr haccess => exact haccess.pcopInv h
  | burn n hrun => exact h.burnAll _
  | service src hrun hpick => exact PcopInv.burnAll (s := enterService src s) h _
  | reset fuse hphase =>
    rw [State.respond_pcop, deviceReset_pcop]
    split
    · exact ⟨and_left_and_compl _ h.copcr_valid, .inl rfl⟩
    · exact h
  | _ => simpa using h

/-! ### The arbiter -/

section
variable {cfg : Config} {pending tcr tsr : Byte}

/-- The recomputation establishes the timer's pending bit (R151, R240 (a)). -/
theorem PendingInv.recomputed (h : PendingInv cfg pending tcr tsr) (tcr' tsr' : Byte) :
    PendingInv cfg (putBit pending cfg.nExt.val (decide (tcr' &&& tsr' &&& 0xE0#8 ≠ 0#8))) tcr' tsr' where
  pending_known k hk hgt := by rw [putBit_getLsbD _ _ _ _ hk, if_neg (by omega), h.pending_known k hk hgt]
  timer_bit := by rw [putBit_getLsbD _ _ _ _ cfg.nExt.isLt, if_pos rfl]

/-- An external line's bit is not the timer's. -/
theorem PendingInv.putBit_line (h : PendingInv cfg pending tcr tsr) {line : Fin 8} (hline : line < cfg.nExt) (b : Bool) :
    PendingInv cfg (putBit pending line.val b) tcr tsr where
  pending_known k hk hgt := by rw [putBit_getLsbD _ _ _ _ hk, if_neg (by omega), h.pending_known k hk hgt]
  timer_bit := by rw [putBit_getLsbD _ _ _ _ cfg.nExt.isLt, if_neg (by omega), h.timer_bit]

/-- Acknowledging a source, whichever it is, and then recomputing the timer's bit. -/
theorem PendingInv.acknowledged (h : PendingInv cfg pending tcr tsr) (src : Source) (tcr' tsr' : Byte) :
    PendingInv cfg (putBit (acknowledge src pending) cfg.nExt.val (decide (tcr' &&& tsr' &&& 0xE0#8 ≠ 0#8))) tcr' tsr' where
  pending_known k hk hgt := by
    rw [putBit_getLsbD _ _ _ _ hk, if_neg (by omega)]
    cases src with
    | timer => exact h.pending_known k hk hgt
    | ext line => rw [acknowledge, putBit_getLsbD _ _ _ _ hk, h.pending_known k hk hgt, ite_self]
  timer_bit := by rw [putBit_getLsbD _ _ _ _ cfg.nExt.isLt, if_pos rfl]

end

/-- IEDG, all that a device reset keeps of `tcr`, is no enable (R52, R151). -/
theorem no_enable_in_iedgMask (tcr tsr : Byte) : tcr &&& iedgMask &&& tsr &&& 0xE0#8 = 0#8 := by
  rw [BitVec.and_assoc tcr, BitVec.and_comm iedgMask, BitVec.and_assoc, BitVec.and_assoc tsr,
    show iedgMask &&& 0xE0#8 = 0#8 by decide]
  simp

theorem Applied.pendingInv {s t : State} {i : Instr} (happ : Applied s i t)
    (h : PendingInv s.cfg s.pending s.timer.tcr s.timer.tsr) :
    PendingInv t.cfg t.pending t.timer.tcr t.timer.tsr := by
  cases happ with
  | writeControl data =>
    rw [State.respond_pending, State.recomputeTimerPending_pending, timerEvent_eq]
    exact h.recomputed ..
  | timerElement hr haccess => cases haccess <;> exact h
  | @followUp _ f u _ hr haccess =>
    have hu : PendingInv s.cfg s.pending u.tcr u.tsr := by cases haccess <;> exact h
    cases hseen : u.statusSeen.getLsbD f.bit with
    | true =>
      rw [State.clearIfSeen_of_seen _ _ hseen, State.clearFlag_eq]
      exact hu.recomputed ..
    | false =>
      rw [State.clearIfSeen_of_unseen _ _ hseen]
      exact hu
  | capture rising hopen =>
    rw [State.respond_pending, capture_pending]
    exact h.recomputed ..
  | burn n hrun =>
    rw [State.respond_pending, burnAll_pending, State.respond_timer, burnAll_timer, State.respond_cfg, burnAll_cfg]
    exact h.recomputed ..
  | irq line hline => exact h.putBit_line hline true
  | service src hrun hpick =>
    rw [State.respond_pending, burnAll_pending, State.respond_timer, burnAll_timer, State.respond_cfg, burnAll_cfg]
    exact h.acknowledged ..
  | reset fuse hphase =>
    refine ⟨fun k _ _ => ?_, ?_⟩
    · simp
    · simp [resetTimer, no_enable_in_iedgMask]
  | _ => simpa using h

/-! ### The step -/

/-- A reset request is outstanding only in RUNNING, for burns run nowhere else (D24). -/
theorem Applied.request_running {s t : State} {i : Instr} (happ : Applied s i t)
    (h : s.resetPending = true → s.phase = .running) : t.resetPending = true → t.phase = .running := by
  cases happ with
  | start hphase => simpa [hphase] using h
  | burn n hrun => exact fun _ => (burnAll_phase ..).trans hrun.1
  | service src hrun hpick => exact fun _ => (burnAll_phase ..).trans hrun.1
  | reset fuse hphase => exact fun _ => rfl
  | _ => simpa using h

theorem Applied.inv {s t : State} {i : Instr} (happ : Applied s i t) (h : Inv s) : Inv t := by
  rw [inv_iff] at h ⊢
  obtain ⟨hports, htimer, hpcop, hpending, hrequest⟩ := h
  exact ⟨happ.portsInv hports, happ.timerInv htimer, happ.pcopInv hpcop, happ.pendingInv hpending,
    happ.request_running hrequest⟩

/-- The waiting words and the responses are no elements of the block. -/
theorem Inv.of_outside {s : State} (h : Inv s) (results : List Response) (ops : List OpWord) :
    Inv { s with results := results, ops := ops } :=
  { h with }

/-- Settles O59: a step does nothing to the block or applies one operation, and every effect keeps every part of `Inv`. -/
theorem stepKeepsInvariant : Obligations.StepKeepsInvariant := by
  intro s t h hstep
  rcases step_next hstep with ⟨-, rfl⟩ | ⟨w, rest, why, -, rfl⟩ | ⟨w, rest, i, -, -, hexec⟩
  · exact h
  · exact h.of_outside _ rest
  · exact (applied_of_exec hexec).inv (h.of_outside s.results rest)

end Sys2Proof.Machine
end

section
/-! SUPPORT. What an operation does to one port and what it appends to the output trace; with them the statements about the
ports and their notifications. -/

namespace Sys2Proof.Machine

/-! ### One port -/

/-- WR of the port: with WR of its direction register the only operation that can notify of it (40_port.md R133 (d)). -/
def WritesLatch (p : PortId) (i : Instr) : Prop := ∃ data, i = wrPort p data

/-- WR of the direction register of the port, if it has one. -/
def WritesDirection (p : PortId) (i : Instr) : Prop := ∃ op ∈ ddrOps, op.1 = p ∧ ∃ data, i = op.2.2.1 data

/-- What an operation `i` applied at `s` can make of the port `p` (10_state.md R21 to R25). -/
inductive PortEffect (s : State) (p : PortId) (i : Instr) : Port → Prop
  | kept : PortEffect s p i (s.port p)
  | sampled (hi : i = rdPort p) : PortEffect s p i (samplePins (s.cfg.inConn.get p) (s.port p))
  | latched (hi : WritesLatch p i) (v : Byte) : PortEffect s p i { s.port p with outputLatch := v }
  | directed (hi : WritesDirection p i) (v : Byte) : PortEffect s p i { s.port p with direction := v }
  | driven (v : Byte) (hi : i = .pin p v) : PortEffect s p i { s.port p with pinIn := v }
  | masked (v : Byte) (hi : i = .cfgmask p v) (hphase : s.phase = .config) :
      PortEffect s p i { s.port p with physicalMask := v }
  | undriven (fuse : Bool) (hi : i = .reset fuse) : PortEffect s p i { s.port p with direction := 0#8 }

/-- A port replaced: the port itself has the effect, the others are kept. -/
theorem PortEffect.of_set {s : State} {p q : PortId} {i : Instr} {x : Port} (h : p = q → PortEffect s p i x) :
    PortEffect s p i ((s.ports.set q x).get p) := by
  rw [Ports.get_set]
  split
  · next hpq => exact h hpq
  · exact .kept

theorem Applied.portEffect {s t : State} {i : Instr} (happ : Applied s i t) (p : PortId) : PortEffect s p i (t.port p) := by
  cases happ with
  | readPort q => exact .of_set (by rintro rfl; exact .sampled rfl)
  | writeLatch q data hrun =>
    rw [writeLatch_eq]
    exact .of_set (by rintro rfl; exact .latched ⟨data, rfl⟩ _)
  | writeDirection hop data hrun =>
    rw [writeDirection_eq]
    exact .of_set (by rintro rfl; exact .directed ⟨_, hop, rfl, data, rfl⟩ _)
  | pin q v => exact .of_set (by rintro rfl; exact .driven v rfl)
  | cfgmask q v hphase => exact .of_set (by rintro rfl; exact .masked v rfl hphase)
  | reset fuse hphase =>
    rw [State.respond_port, State.port, deviceReset_ports, Ports.get_map]
    exact .undriven fuse rfl
  | followUp | burn | service =>
    rw [State.respond_port, State.port]
    simp only [State.clearIfSeen_ports, State.setTimer_ports, burnAll_ports, enterService_ports]
    exact .kept
  | _ => exact .kept

/-! ### The output trace -/

/-- What an operation `i` applied at `s` appends to the trace, `t` being the state it leads to. -/
inductive Emission (s t : State) (i : Instr) : List Event → Prop
  /-- Nothing. -/
  | silent : Emission s t i []
  /-- One notification of a port that the operation writes (R123, R126). -/
  | notified {p : PortId} (hi : WritesLatch p i ∨ WritesDirection p i) (hrun : s.Running) :
      Emission s t i [.portOut p (compose (t.port p)) (t.port p).direction]
  /-- The events of a burn of `n` cycles, after those of a service entry, if any (R180, R235, R251). -/
  | burned {es : List Event} (n : Nat) (hi : (∃ n, i = .burn n) ∨ i = .service) (hports : portEvents es = [])
      (htcmp : tcmpEvents es = burnedTcmp n s.timer) : Emission s t i es

@[simp] theorem portEvents_append (l m : List Event) : portEvents (l ++ m) = portEvents l ++ portEvents m :=
  List.filter_append ..

/-- A burn appends events to the trace, no port notification among them. -/
theorem burnAll_emits (n : Nat) (s : State) :
    ∃ es, (burnAll n s).trace = s.trace ++ es ∧ portEvents es = [] ∧ tcmpEvents es = burnedTcmp n s.timer := by
  refine ⟨_, by rw [burnAll_trace, List.append_assoc, List.append_assoc], ?_, ?_⟩
  · have hreq : ∀ (b : Bool) (src : Watchdog), portEvents (if b then [.resetReq src] else []) = [] := by
      intro b src
      cases b <;> rfl
    rw [portEvents_append, portEvents_append, hreq, hreq, burnedTcmp]
    split <;> rfl
  · simp only [tcmpEvents_append, tcmpEvents_burnedTcmp, tcmpEvents_ite_resetReq, List.append_nil]

/-- A write appends its notification or nothing. -/
theorem Emission.of_ite {s t : State} {i : Instr} {c : Prop} [Decidable c] {e : Event} (h : c → Emission s t i [e]) :
    Emission s t i (if c then [e] else []) := by
  split
  · next hc => exact h hc
  · exact .silent

theorem Applied.emission {s t : State} {i : Instr} (happ : Applied s i t) :
    ∃ es, t.trace = s.trace ++ es ∧ Emission s t i es := by
  cases happ with
  | writeLatch p data hrun =>
    rw [writeLatch_eq]
    refine ⟨_, rfl, .of_ite fun _ => ?_⟩
    have h := Emission.notified (t := (Machine.writeLatch p data s).respond .done) (p := p) (.inl ⟨data, rfl⟩) hrun
    rw [State.respond_port, writeLatch_port_self, writeLatch_eq] at h
    exact h
  | @writeDirection p rd peek wr hop data hrun =>
    rw [writeDirection_eq]
    refine ⟨_, rfl, .of_ite fun _ => ?_⟩
    have h := Emission.notified (t := (Machine.writeDirection p data s).respond .done) (p := p)
      (.inr ⟨_, hop, rfl, data, rfl⟩) hrun
    rw [State.respond_port, writeDirection_port_self, writeDirection_eq] at h
    exact h
  | burn n hrun =>
    obtain ⟨es, htrace, hports, htcmp⟩ := burnAll_emits n.toNat s
    exact ⟨es, htrace, .burned n.toNat (.inl ⟨n, rfl⟩) hports htcmp⟩
  | service src hrun hpick =>
    obtain ⟨es, htrace, hports, htcmp⟩ := burnAll_emits s.cfg.intAckCycles.toNat (enterService src s)
    refine ⟨entryEvents s.cfg src ++ es, ?_, .burned s.cfg.intAckCycles.toNat (.inr rfl) hports htcmp⟩
    rw [State.respond_trace, htrace, enterService_trace, List.append_assoc]
  | followUp => exact ⟨[], by simp, .silent⟩
  | _ => exact ⟨[], (List.append_nil _).symm, .silent⟩

/-! ### The notifications -/

/-- At most one port notification. -/
theorem Emission.length_portEvents_le {s t : State} {i : Instr} {es : List Event} (h : Emission s t i es) :
    (portEvents es).length ≤ 1 := by
  cases h with
  | silent => exact Nat.zero_le 1
  | notified => exact Nat.le_refl 1
  | burned n hi hports => simp [hports]

/-- A notification is the one of a port write. -/
theorem Emission.of_portOut_mem {s t : State} {i : Instr} {es : List Event} (h : Emission s t i es) {p : PortId}
    {value dirmask : Byte} (hmem : Event.portOut p value dirmask ∈ es) :
    (WritesLatch p i ∨ WritesDirection p i) ∧ s.Running ∧ value = compose (t.port p) ∧ dirmask = (t.port p).direction := by
  cases h with
  | silent => cases hmem
  | notified hi hrun =>
    cases List.mem_singleton.mp hmem
    exact ⟨hi, hrun, rfl, rfl⟩
  | burned n hi hports =>
    have hnone : Event.portOut p value dirmask ∈ portEvents es := List.mem_filter.mpr ⟨hmem, rfl⟩
    rw [hports] at hnone
    cases hnone

/-- Settles O21: what each operation appends to the trace. -/
theorem notificationsOnlyFromPortWrites : Obligations.NotificationsOnlyFromPortWrites := by
  intro i s t hexec
  obtain ⟨es, htrace, hes⟩ := (applied_of_exec hexec).emission
  exact ⟨es, htrace, hes.length_portEvents_le, fun p value dirmask hmem => (hes.of_portOut_mem hmem).1⟩

/-! ### The elements of a port -/

/-- Settles O22: each effect on the port replaces one element, and names the operation that has it. -/
theorem portElementWriters : Obligations.PortElementWriters := by
  intro i s t p hexec
  have heffect := (applied_of_exec hexec).portEffect p
  generalize t.port p = q at heffect
  cases heffect with
  | kept =>
    exact ⟨fun h => absurd rfl h, fun h => absurd rfl h, fun h => absurd rfl h, fun h => absurd rfl h, fun h => absurd rfl h⟩
  | sampled hi =>
    refine ⟨fun h => absurd (samplePins_physicalMask ..) h, fun h => absurd (samplePins_direction ..) h,
      fun h => absurd (samplePins_outputLatch ..) h, fun h => ⟨hi, ?_⟩, fun h => absurd (samplePins_pinIn ..) h⟩
    by_contra hconn
    rw [Bool.not_eq_true] at hconn
    rw [hconn, samplePins_false] at h
    exact h rfl
  | latched hi v =>
    exact ⟨fun h => absurd rfl h, fun h => absurd rfl h, fun _ => hi, fun h => absurd rfl h, fun h => absurd rfl h⟩
  | directed hi v =>
    exact ⟨fun h => absurd rfl h, fun _ => .inr hi, fun h => absurd rfl h, fun h => absurd rfl h, fun h => absurd rfl h⟩
  | driven v hi =>
    exact ⟨fun h => absurd rfl h, fun h => absurd rfl h, fun h => absurd rfl h, fun h => absurd rfl h, fun _ => ⟨v, hi⟩⟩
  | masked v hi hphase =>
    exact ⟨fun _ => ⟨hphase, v, hi⟩, fun h => absurd rfl h, fun h => absurd rfl h, fun h => absurd rfl h,
      fun h => absurd rfl h⟩
  | undriven fuse hi =>
    exact ⟨fun h => absurd rfl h, fun _ => .inl ⟨fuse, hi⟩, fun h => absurd rfl h, fun h => absurd rfl h,
      fun h => absurd rfl h⟩

/-- The masks are fixed once the block has left CONFIG (R129). -/
theorem Applied.physicalMask_eq {s t : State} {i : Instr} (happ : Applied s i t) (hphase : s.phase ≠ .config) (p : PortId) :
    (t.port p).physicalMask = (s.port p).physicalMask := by
  have heffect := happ.portEffect p
  generalize t.port p = q at heffect
  cases heffect with
  | masked v hi hconfig => exact absurd hconfig hphase
  | sampled hi => exact samplePins_physicalMask ..
  | _ => rfl

/-- No operation leads back to CONFIG. -/
theorem Applied.phase_config {s t : State} {i : Instr} (happ : Applied s i t) (h : t.phase = .config) : s.phase = .config := by
  cases happ with
  | cfgmask p v hphase => exact hphase
  | start hphase => exact hphase
  | reset fuse hphase => cases h
  | _ => simpa using h

/-! ### Notifications report existing bits -/

/-- A composed value has no absent bit (R121). -/
theorem compose_masked (p : Port) : compose p &&& ~~~p.physicalMask = 0#8 := and_and_compl_self ..

/-- The same port masks make the same events masked. -/
theorem Event.masked_congr {s t : State} (h : ∀ p, (t.port p).physicalMask = (s.port p).physicalMask) {e : Event}
    (he : e.masked s) : e.masked t := by
  cases e with
  | portOut p value dirmask =>
    rw [Event.masked] at he ⊢
    rwa [h p]
  | _ => trivial

theorem Applied.notificationsMasked {s t : State} {i : Instr} (happ : Applied s i t) (hinv : Inv s)
    (h : NotificationsMasked s) : NotificationsMasked t := by
  obtain ⟨es, htrace, hes⟩ := happ.emission
  have hnew : ∀ e ∈ es, e.masked t := by
    intro e he
    cases e with
    | portOut p value dirmask =>
      obtain ⟨-, -, rfl, rfl⟩ := hes.of_portOut_mem he
      exact ⟨compose_masked _, (happ.inv hinv).direction_masked p⟩
    | _ => trivial
  refine ⟨?_, fun hconfig => ?_⟩
  · rw [htrace]
    intro e he
    rcases List.mem_append.mp he with hold | hadded
    · by_cases hphase : s.phase = .config
      · have hquiet := h.none_in_config hphase
        cases e with
        | portOut p value dirmask =>
          have hmem : Event.portOut p value dirmask ∈ portEvents s.trace := List.mem_filter.mpr ⟨hold, rfl⟩
          rw [hquiet] at hmem
          cases hmem
        | _ => trivial
      · exact Event.masked_congr (happ.physicalMask_eq hphase) (h.masked e hold)
    · exact hnew e hadded
  · have hphase := happ.phase_config hconfig
    rw [htrace, portEvents_append, h.none_in_config hphase, List.nil_append]
    cases hes with
    | silent => rfl
    | notified hi hrun => rw [hrun.1] at hphase; cases hphase
    | burned n hi hports => exact hports

/-- Settles O60: a new notification is composed of a port that meets `Inv`, an old one was sent after the masks were fixed. -/
theorem stepKeepsNotificationsMasked : Obligations.StepKeepsNotificationsMasked := by
  intro s t hinv h hstep
  rcases step_next hstep with ⟨-, rfl⟩ | ⟨w, rest, why, -, rfl⟩ | ⟨w, rest, i, -, -, hexec⟩
  · exact h
  · exact { h with }
  · exact (applied_of_exec hexec).notificationsMasked (hinv.of_outside s.results rest) { h with }

/-! ### Port accesses -/

/-- Settles O15: the composed value, bit by bit. -/
theorem peekPortComposes : Obligations.PeekPortComposes := by
  intro i s
  refine ⟨compose (s.port i), ?_, fun b _ => compose_getLsbD _ b⟩
  cases i <;> rfl

/-- Settles O16: the port after sampling and its composed value, bit by bit. -/
theorem rdPortSamplesPins : Obligations.RdPortSamplesPins := by
  intro i s hrun
  refine ⟨compose (samplePins (s.cfg.inConn.get i) (s.port i)), (samplePins (s.cfg.inConn.get i) (s.port i)).lastSampledInput,
    ?_, fun b hb => ?_, fun hconn => ?_, fun hconn b hb => ?_⟩
  · rw [exec_rdPort, whenRunning_of_running hrun, readPort_eq]
    cases s.cfg.inConn.get i <;> rfl
  · rw [compose_getLsbD]
    cases hconn : s.cfg.inConn.get i with
    | false => rfl
    | true =>
      rw [samplePins_lastSampledInput_getLsbD _ _ hb]
      cases hmask : (s.port i).physicalMask.getLsbD b <;> cases hdir : (s.port i).direction.getLsbD b <;> simp [hmask, hdir]
  · rw [hconn, samplePins_false]
  · rw [hconn, samplePins_lastSampledInput_getLsbD _ _ hb]

/-- With port D an input, a sampled and composed value is the existing pins (R121, R122). -/
theorem compose_samplePins_of_input {p : Port} (h : p.direction = 0#8) :
    compose (samplePins true p) = p.pinIn &&& p.physicalMask := by
  apply BitVec.eq_of_getLsbD_eq
  intro b hb
  rw [compose_getLsbD, samplePins_lastSampledInput_getLsbD _ _ hb]
  simp [h, Bool.and_comm]

/-- Settles O20: no effect directs port D, for it has no direction register; with no output bit no write of it is driven. -/
theorem portDIsInputOnly : Obligations.PortDIsInputOnly := by
  intro s hd
  refine ⟨fun i t hexec => ?_, fun hrun data => ?_, fun hrun hconn => ?_⟩
  · have heffect := (applied_of_exec hexec).portEffect .d
    generalize t.port .d = q at heffect
    cases heffect with
    | sampled hi => exact (samplePins_direction ..).trans hd
    | directed hi v =>
      obtain ⟨⟨p, rd, wr, peek⟩, hop, hp, -⟩ := hi
      exact absurd hp (ne_portD_of_mem_ddrOps hop)
    | undriven fuse hi => rfl
    | _ => exact hd
  · refine ⟨(writeLatch .d data s).respond .done, ?_, ?_, ?_⟩
    · rw [exec_wrPortd, whenRunning_of_running hrun]
    · exact writeLatch_trace_of_driven_kept fun b _ hdriven => by simp [hd] at hdriven
    · rw [State.respond_port, writeLatch_port_self]
  · refine ⟨readPort .d s, ?_, ?_⟩
    · rw [exec_rdPortd, whenRunning_of_running hrun]
    · have hget : s.cfg.inConn.get .d = true := hconn
      rw [readPort_results, hget, compose_samplePins_of_input hd]

/-! ### A second reset -/

theorem deviceReset_idem (fuse : Bool) (s : State) : deviceReset fuse (deviceReset fuse s) = deviceReset fuse s := by
  have htimer : resetTimer s.cfg (resetTimer s.cfg s.timer) = resetTimer s.cfg s.timer := by
    simp [resetTimer, BitVec.and_assoc]
  have hpcop : resetPcop (resetPcop s.pcop) = resetPcop s.pcop := by
    simp [resetPcop, BitVec.and_assoc]
  rw [deviceReset_eq fuse s, deviceReset_eq]
  dsimp only
  rw [htimer]
  cases s.cfg.hasPcop <;> cases s.cfg.hasNcop <;> simp [hpcop, Ports.map]

/-- A RESET that answers a next state is a device reset outside CONFIG. -/
theorem exec_reset_next {fuse : Bool} {s t : State} (h : exec (.reset fuse) s = .next t) :
    t = (deviceReset fuse s).respond .done := by
  rw [exec_reset] at h
  split at h <;> cases h <;> rfl

/-- Settles O14: a second reset writes what the first one wrote, and with every bit an input no pin is driven. -/
theorem resetTwiceIsOnce : Obligations.ResetTwiceIsOnce := by
  intro s t fuse h
  obtain rfl := exec_reset_next h
  refine ⟨?_, fun i b => ?_, deviceReset_trace s fuse⟩
  · have hagain : deviceReset fuse ((deviceReset fuse s).respond .done)
        = (deviceReset fuse (deviceReset fuse s)).respond .done := rfl
    change Host.Outcome.next _ = _
    rw [hagain, deviceReset_idem]
    rfl
  · simp [pinDrive, State.port]

end Sys2Proof.Machine
end

section
/-! SUPPORT. The step, the legality of an operation (44_system.md R258), the two fatal conditions, and the values of power-on
and reset; with them the statements of the lifecycle. -/

namespace Sys2Proof.Machine

/-! ### The step -/

/-- Settles O5: a step settles the outcome of the decoded operation. -/
theorem stepRunsDecodedOperation : Obligations.StepRunsDecodedOperation := by
  intro s w rest i hops hdecode
  have hstep : step s = settle { s with ops := rest } (exec i { s with ops := rest }) :=
    (step_cons hops).trans (applyWord_ok hdecode)
  refine ⟨fun t h => ?_, fun r h => ?_, fun why h => ?_⟩
  · rw [hstep, h, settle]
  · rw [hstep, h, settle]
  · rw [hstep, h, settle]
    rfl

/-- Settles O6: an invalid word is one response, no word is no change. -/
theorem stepPassesInvalidWords : Obligations.StepPassesInvalidWords := by
  exact ⟨fun s w rest why hops hdecode => (step_cons hops).trans (applyWord_error hdecode), fun s hops => step_nil hops⟩

/-! ### Legality -/

/-- Inspection answers a next state that differs in the response and the free bytes drawn alone (R254). -/
theorem exec_inspection {i : Instr} (h : i.inspection = true) (s : State) :
    ∃ r draws, exec i s = .next { s with results := s.results ++ [r], draws := draws } := by
  cases i with
  | peekCopcr =>
    rw [exec_peekCopcr]
    split <;> exact ⟨_, _, rfl⟩
  | peekPorta | peekPortb | peekPortc | peekPortd | peekDdra | peekDdrb | peekDdrc | peekTcr | peekTsr | peekIcrh | peekIcrl
  | peekOcrh | peekOcrl | peekTrh | peekTrl | peekAtrh | peekAtrl | peekCoprst | peekUnmapped | exportState =>
    exact ⟨_, _, rfl⟩
  | _ => cases h

/-- A service entry answers a next state or is the arbiter's fault, and refuses nothing (R235, R238). -/
theorem serviceEntry_next_or_fault (s : State) :
    (∃ t, serviceEntry s = .next t) ∨ serviceEntry s = .fault .arbiterInvariant := by
  unfold serviceEntry
  split
  · exact .inr rfl
  · split
    · exact .inr rfl
    · exact .inl ⟨_, rfl⟩

/-- A run-time operation that exists on the variant is guarded by the legality test, and behind it is applied or, if it is
SERVICE, perhaps fatal. -/
theorem exec_runTime {i : Instr} {s : State} (hwf : i.wellFormed s.cfg = true) (h : i.runTime = true) :
    ∃ o, exec i s = whenRunning s o ∧ ((∃ t, o = .next t) ∨ i = .service ∧ o = .fault .arbiterInvariant) := by
  cases i with
  | peekPorta | peekPortb | peekPortc | peekPortd | peekDdra | peekDdrb | peekDdrc | peekTcr | peekTsr | peekIcrh | peekIcrl
  | peekOcrh | peekOcrl | peekTrh | peekTrl | peekAtrh | peekAtrl | peekCoprst | peekCopcr | peekUnmapped | exportState
  | cfgmask | start | reset => cases h
  | irq line =>
    rw [Instr.wellFormed, decide_eq_true_eq] at hwf
    exact ⟨_, (exec_irq s line).trans (if_pos hwf), .inl ⟨_, rfl⟩⟩
  | service => exact ⟨_, exec_service s, (serviceEntry_next_or_fault s).imp_right fun hfault => ⟨rfl, hfault⟩⟩
  | _ => exact ⟨_, rfl, .inl ⟨_, rfl⟩⟩

/-- START is applied in CONFIG alone (R130). -/
theorem exec_start_of_config {s : State} (h : s.phase = .config) :
    exec .start s = .next ({ s with phase := .started }.respond .done) := by
  rw [exec_start, h]

theorem exec_start_of_not_config {s : State} (h : s.phase ≠ .config) :
    exec .start s = .refused (.operation .alreadyStarted) := by
  rw [exec_start]
  split
  · next hphase => exact absurd hphase h
  · rfl
  · rfl

/-- RESET is applied everywhere but in CONFIG (R302). -/
theorem exec_reset_of_config {s : State} (h : s.phase = .config) (fuse : Bool) :
    exec (.reset fuse) s = .refused (.operation .notStarted) := by
  rw [exec_reset, h]

theorem exec_reset_of_not_config {s : State} (h : s.phase ≠ .config) (fuse : Bool) :
    exec (.reset fuse) s = .next ((deviceReset fuse s).respond .done) := by
  rw [exec_reset]
  split
  · next hphase => exact absurd hphase h
  · rfl
  · rfl

/-- Settles O7: each row of the table is the legality of one class of operations. -/
theorem legalityByPhase : Obligations.LegalityByPhase := by
  intro i s hwf
  refine ⟨fun h => ?_, fun h hphase => ?_, fun h hphase hrequest => ?_, fun h hrun => ?_, ?_, ?_, ?_⟩
  · obtain ⟨r, draws, hexec⟩ := exec_inspection h s
    exact ⟨_, hexec⟩
  · obtain ⟨o, hexec, -⟩ := exec_runTime hwf h
    rw [hexec, whenRunning_beforeBoot hphase]
  · obtain ⟨o, hexec, -⟩ := exec_runTime hwf h
    rw [hexec, whenRunning_resetOutstanding hphase hrequest]
  · obtain ⟨o, hexec, ho⟩ := exec_runTime hwf h
    rw [hexec, whenRunning_of_running hrun]
    exact ho
  · rintro rfl
    split
    · next hphase => exact ⟨_, exec_start_of_config hphase⟩
    · next hphase => exact exec_start_of_not_config hphase
  · rintro fuse rfl
    split
    · next hphase => exact exec_reset_of_config hphase fuse
    · next hphase => exact ⟨_, exec_reset_of_not_config hphase fuse⟩
  · rintro idx v rfl
    split
    · next hphase => exact ⟨_, exec_cfgmask_of_config hphase idx v⟩
    · next hphase => exact exec_cfgmask_of_not_config hphase idx v

/-! ### The arbiter's fault -/

/-- Where PRIORITY orders the known sources the entry is fatal exactly with none of them pending (R238). -/
theorem serviceEntry_fault_iff {s : State} (hcfg : s.cfg.WellFormed) :
    serviceEntry s = .fault .arbiterInvariant ↔ s.pending &&& knownMask s.cfg = 0#8 := by
  unfold serviceEntry
  by_cases h : s.pending &&& knownMask s.cfg = 0#8
  · simp [h]
  · obtain ⟨src, hpick⟩ := Option.isSome_iff_exists.mp (pickSource_isSome hcfg h)
    simp [h, hpick]

/-- Settles O9: of the two operations that can be fatal CFGMASK raises the other fault. -/
theorem arbiterFaultExactly : Obligations.ArbiterFaultExactly := by
  intro i s hcfg
  constructor
  · intro hfault
    cases hraise : raisesFault i with
    | false => exact absurd hfault (exec_faultless hraise s .arbiterInvariant)
    | true =>
      cases i with
      | service =>
        obtain ⟨hrun, hentry⟩ := whenRunning_fault hfault
        exact ⟨rfl, hrun, (serviceEntry_fault_iff hcfg).mp hentry⟩
      | cfgmask idx v =>
        rw [exec_cfgmask_of_not_config (exec_cfgmask_fault hfault)] at hfault
        cases hfault
      | _ => cases hraise
  · rintro ⟨rfl, hrun, hnone⟩
    rw [exec_service, whenRunning_of_running hrun, serviceEntry_fault_iff hcfg]
    exact hnone

/-! ### Power-on and reset -/

/-- Settles O13: the device-reset column, element by element. -/
theorem resetEffect : Obligations.ResetEffect := by
  intro s fuse hphase
  rw [exec_reset_of_not_config hphase, deviceReset_eq]
  rfl

theorem loByte_eq_setWidth (v : Half) : loByte v = v.setWidth 8 := by
  apply BitVec.eq_of_toNat_eq
  simp [loByte]

/-- The device-reset column gives the timer the values of power-on, for every value of IEDG (R52). -/
theorem resetTimer_powerOn (cfg : Config) (p : PowerOn) :
    resetTimer cfg (State.powerOn cfg p).timer = (State.powerOn cfg p).timer := by
  cases hiedg : p.iedg <;> simp [State.powerOn, resetTimer, hiedg, iedgMask, loByte_eq_setWidth]

/-- A device reset of the block after construction sets nothing but the phase and the sampled enable (R302, R307). -/
theorem deviceReset_powerOn (cfg : Config) (p : PowerOn) (fuse : Bool) (results : List Response) :
    deviceReset fuse { State.powerOn cfg p with phase := .started, results := results } =
      { State.powerOn cfg p with
        phase := .running
        ncop := { counter := 0#17, enabled := cfg.hasNcop && fuse }
        results := results } := by
  have htimer := resetTimer_powerOn cfg p
  rw [deviceReset_eq]
  cases hpcop : cfg.hasPcop <;> cases hncop : cfg.hasNcop <;>
    simp_all [State.powerOn, resetPcop, Ports.map, Port.powerOn]

/-- Settles O11: START moves the phase, and the device reset finds the values of power-on. -/
theorem startAndBoot : Obligations.StartAndBoot := by
  refine ⟨fun s hphase => exec_start_of_config hphase, fun cfg p fuse => ⟨_, exec_start_of_config rfl, ?_⟩⟩
  rw [exec_reset_of_not_config (fun h => Phase.noConfusion h)]
  exact congrArg (fun u : State => Host.Outcome.next (u.respond .done)) (deviceReset_powerOn cfg p fuse _)

/-- Settles O12: the values of `State.reset`, read off its definition. -/
theorem resetStateValues : Obligations.ResetStateValues := by
  refine ⟨fun i => ?_, rfl, rfl, rfl, rfl, rfl, rfl, rfl, rfl, rfl, rfl, rfl, rfl, rfl, rfl, rfl⟩
  cases i <;> exact ⟨rfl, rfl⟩

theorem powerOn_port (cfg : Config) (p : PowerOn) (i : PortId) :
    (State.powerOn cfg p).port i = Port.powerOn (p.latch.get i) (p.input.get i) (p.pins.get i) := by
  cases i <;> rfl

theorem powerOn_inv (cfg : Config) (p : PowerOn) : Inv (State.powerOn cfg p) := by
  rw [inv_iff]
  refine ⟨.of_inputs fun i => congrArg Port.direction (powerOn_port cfg p i), ⟨?_, BitVec.zero_and, BitVec.zero_and⟩,
    ⟨BitVec.zero_and, .inl rfl⟩, ⟨?_, ?_⟩, nofun⟩
  · dsimp only [State.powerOn]
    split <;> rfl
  · exact fun k _ _ => BitVec.getLsbD_zero
  · simp [State.powerOn]

/-- An empty trace notifies of nothing. -/
theorem NotificationsMasked.of_no_trace {s : State} (h : s.trace = []) : NotificationsMasked s where
  masked := by simp [h]
  none_in_config _ := by rw [h]; rfl

/-- Settles O58: `State.reset` is the power-on state in RUNNING, where every bit is still an input. -/
theorem resetAndPowerOnMeetInvariants : Obligations.ResetAndPowerOnMeetInvariants := by
  refine ⟨⟨?_, .of_no_trace rfl⟩, fun cfg p => ⟨powerOn_inv cfg p, .of_no_trace rfl⟩⟩
  have h := powerOn_inv Config.standard PowerOn.standard
  exact { h with
    inputs_before_boot := fun hphase => absurd rfl hphase
    request_running := nofun }

end Sys2Proof.Machine
end

section
/-! SUPPORT. The Timer/Counter Engine's accesses (41_timer.md), the readouts across burns, and who writes the inhibits and the
flags; with them the statements of the timer. -/

namespace Sys2Proof.Machine

/-! ### The bytes of a 16-bit register -/

theorem joinBytes_getLsbD (hi lo : Byte) (b : Nat) :
    (joinBytes hi lo).getLsbD b = if b < 8 then lo.getLsbD b else hi.getLsbD (b - 8) :=
  BitVec.getLsbD_append

@[simp] theorem hiByte_joinBytes (hi lo : Byte) : hiByte (joinBytes hi lo) = hi := by
  apply BitVec.eq_of_getLsbD_eq
  intro b hb
  rw [hiByte, BitVec.getLsbD_extractLsb', joinBytes_getLsbD]
  simp [hb]

@[simp] theorem loByte_joinBytes (hi lo : Byte) : loByte (joinBytes hi lo) = lo := by
  apply BitVec.eq_of_getLsbD_eq
  intro b hb
  rw [loByte, BitVec.getLsbD_extractLsb', joinBytes_getLsbD]
  simp [hb]

@[simp] theorem joinBytes_hiByte_loByte (v : Half) : joinBytes (hiByte v) (loByte v) = v := by
  apply BitVec.eq_of_getLsbD_eq
  intro b hb
  rw [joinBytes_getLsbD, hiByte, loByte, BitVec.getLsbD_extractLsb', BitVec.getLsbD_extractLsb']
  by_cases hlow : b < 8
  · simp [hlow]
  · simp [hlow, show b - 8 < 8 by omega, show 8 + (b - 8) = b by omega]

/-! ### The follow-up accesses -/

/-- A follow-up access changes of the state at most the status, the seen mask and `pending`. -/
theorem State.clearIfSeen_frame (s : State) (f : TimerFlag) :
    s.clearIfSeen f =
      { s with
        timer :=
          { s.timer with tsr := (s.clearIfSeen f).timer.tsr, statusSeen := (s.clearIfSeen f).timer.statusSeen }
        pending := (s.clearIfSeen f).pending } := by
  unfold State.clearIfSeen
  split <;> rfl

/-- A seen flag is cleared with its seen bit, and the timer's pending bit is that of the other flags (R152). -/
theorem State.clearIfSeen_seen {s : State} {f : TimerFlag} (h : s.timer.statusSeen.getLsbD f.bit = true) :
    (s.clearIfSeen f).timer.tsr = s.timer.tsr &&& ~~~f.mask
      ∧ (s.clearIfSeen f).timer.statusSeen = s.timer.statusSeen &&& ~~~f.mask
      ∧ ∀ k < 8, (s.clearIfSeen f).pending.getLsbD k =
          if k = s.cfg.nExt.val then decide (s.timer.tcr &&& s.timer.tsr &&& (~~~f.mask &&& 0xE0#8) ≠ 0#8)
          else s.pending.getLsbD k := by
  rw [State.clearIfSeen_of_seen s f h, State.clearFlag_eq]
  refine ⟨rfl, rfl, fun k hk => ?_⟩
  rw [putBit_getLsbD _ _ _ _ hk]
  simp only [BitVec.and_assoc]

/-- Settles O26: a timer element replaced, then the follow-up of ICF. -/
theorem captureLowReadClearsSeenFlag : Obligations.CaptureLowReadClearsSeenFlag := by
  intro s hrun
  refine ⟨_, by rw [exec_rdIcrl, whenRunning_of_running hrun], ?_, fun hseen => ?_, fun hunseen => ?_⟩
  · rw [State.clearIfSeen_frame]
    rfl
  · exact State.clearIfSeen_seen (s := s.setTimer { s.timer with captureInhibited := false }) (f := .icf) hseen
  · rw [State.clearIfSeen_of_unseen _ _ hunseen]
    exact ⟨rfl, rfl, rfl⟩

/-- Settles O29: the register's low byte and the inhibit replaced, then the follow-up of OCF. -/
theorem compareLowWriteClearsSeenFlag : Obligations.CompareLowWriteClearsSeenFlag := by
  intro s data hrun
  refine ⟨_, by rw [exec_wrOcrl, whenRunning_of_running hrun], ?_, ?_, ?_, fun hseen => ?_, fun hunseen => ?_⟩
  · rw [State.clearIfSeen_frame]
    rfl
  · rw [State.clearIfSeen_frame]
    exact loByte_joinBytes _ data
  · rw [State.clearIfSeen_frame]
    exact hiByte_joinBytes _ data
  · exact State.clearIfSeen_seen (f := .ocf)
      (s := s.setTimer
        { s.timer with
          outputCompareReg := joinBytes (hiByte s.timer.outputCompareReg) data, compareInhibited := false }) hseen
  · rw [State.clearIfSeen_of_unseen _ _ hunseen]
    exact ⟨rfl, rfl, rfl⟩

/-- Settles O31: each low-byte read ends its own sequence, and RD of TRL is then the follow-up of TOF. -/
theorem counterLowReadEndsSequence : Obligations.CounterLowReadEndsSequence := by
  rintro s low alow rfl rfl
  refine ⟨fun hrun => ⟨_, by rw [exec_rdTrl, whenRunning_of_running hrun], ?_, fun hseen => ?_, fun hunseen => ?_⟩,
    fun hrun => ?_, rfl, rfl⟩
  · rw [State.clearIfSeen_frame]
    rfl
  · exact State.clearIfSeen_seen (f := .tof)
      (s := s.setTimer { s.timer with trLatch := { s.timer.trLatch with latched := false } }) hseen
  · rw [State.clearIfSeen_of_unseen _ _ hunseen]
    exact ⟨rfl, rfl, rfl⟩
  · rw [exec_rdAtrl, whenRunning_of_running hrun]
    rfl

/-! ### The accesses that clear no flag -/

/-- Settles O27: each read is a response alone. -/
theorem compareReadsHaveNoEffect : Obligations.CompareReadsHaveNoEffect := by
  intro s
  refine ⟨fun hrun => ⟨?_, ?_⟩, exec_peekOcrh s, exec_peekOcrl s⟩
  · rw [exec_rdOcrh, whenRunning_of_running hrun]
    rfl
  · rw [exec_rdOcrl, whenRunning_of_running hrun]
    rfl

/-- Settles O28: the high byte joined to the old low byte. -/
theorem compareHighWriteInhibits : Obligations.CompareHighWriteInhibits := by
  intro s data hrun
  refine ⟨joinBytes data (loByte s.timer.outputCompareReg), ?_, hiByte_joinBytes .., loByte_joinBytes ..⟩
  rw [exec_wrOcrh, whenRunning_of_running hrun]
  rfl

/-- Settles O30: each high-byte read replaces its own latch. -/
theorem counterHighReadLatchesLow : Obligations.CounterHighReadLatchesLow := by
  intro s
  refine ⟨fun hrun => ⟨?_, ?_⟩, fun i hi => ?_⟩
  · rw [exec_rdTrh, whenRunning_of_running hrun]
    rfl
  · rw [exec_rdAtrh, whenRunning_of_running hrun]
    rfl
  · simp only [List.mem_cons, List.not_mem_nil, or_false] at hi
    rcases hi with rfl | rfl
    · exact exec_peekTrh s
    · exact exec_peekAtrh s

/-- A TCAP that does not capture is a response alone (R181). -/
theorem exec_tcap_ignored {s : State} {rising : Bool} (hrun : s.Running)
    (h : rising ≠ s.timer.tcr.getLsbD 1 ∨ s.timer.captureInhibited = true) :
    exec (.tcap rising) s = .next (s.respond .done) := by
  rw [exec_tcap, whenRunning_of_running hrun, if_neg]
  rintro ⟨hedge, hopen⟩
  rcases h with h | h
  · exact h hedge
  · rw [hopen] at h
    cases h

/-- Settles O33: the capture of R181, or nothing. -/
theorem tcapCapturesSelectedEdge : Obligations.TcapCapturesSelectedEdge := by
  intro s rising hrun
  refine ⟨fun hedge hopen => ⟨(capture s).respond .done, ?_, rfl, fun k hk => ?_⟩, exec_tcap_ignored hrun⟩
  · rw [exec_tcap, whenRunning_of_running hrun, if_pos ⟨hedge, hopen⟩]
  · rw [State.respond_pending, capture_pending, putBit_getLsbD _ _ _ _ hk]

/-! ### Runs of operations -/

theorem execAll_append (l m : List Instr) (s : State) : execAll (l ++ m) s = (execAll l s).bind (execAll m) := by
  induction l generalizing s with
  | nil => rfl
  | cons i l ih =>
    rw [List.cons_append, execAll, execAll]
    cases exec i s with
    | next t => exact ih t
    | fault | refused => rfl

theorem execAll_cons_eq_some {i : Instr} {l : List Instr} {s u : State} (h : execAll (i :: l) s = some u) :
    ∃ t, exec i s = .next t ∧ execAll l t = some u := by
  rw [execAll] at h
  cases hexec : exec i s with
  | next t =>
    rw [hexec] at h
    exact ⟨t, rfl, h⟩
  | fault | refused =>
    rw [hexec] at h
    cases h

theorem execAll_singleton_eq_some {i : Instr} {s u : State} (h : execAll [i] s = some u) : exec i s = .next u := by
  obtain ⟨t, hexec, hnil⟩ := execAll_cons_eq_some h
  cases hnil
  exact hexec

theorem exec_burn_next {n : Half} {s t : State} (h : exec (.burn n) s = .next t) :
    s.Running ∧ t = (burnAll n.toNat s).respond .done := by
  obtain ⟨hrun, hnext⟩ := whenRunning_next h
  cases hnext
  exact ⟨hrun, rfl⟩

/-- Burns keep both readout latches and answer once each. -/
theorem execAll_burns_latches {burns : List Half} {s t : State} (h : execAll (burns.map Instr.burn) s = some t) :
    t.timer.trLatch = s.timer.trLatch ∧ t.timer.atrLatch = s.timer.atrLatch
      ∧ t.results = s.results ++ burns.map fun _ => .done := by
  induction burns generalizing s with
  | nil =>
    cases h
    simp
  | cons n burns ih =>
    obtain ⟨v, hburn, hrest⟩ := execAll_cons_eq_some h
    obtain ⟨-, rfl⟩ := exec_burn_next hburn
    obtain ⟨htr, hatr, hresults⟩ := ih hrest
    exact ⟨by simpa using htr, by simpa using hatr, by simpa using hresults⟩

/-- The two reads of one counter readout, with the latch they share (R171 to R174). -/
structure Readout (high low : Instr) (latch : Timer → ReadLatch) : Prop where
  high_latches : ∀ {s t : State}, exec high s = .next t →
    latch t.timer = ⟨loByte s.timer.counter, true⟩ ∧ t.results = s.results ++ [.data (hiByte s.timer.counter)]
  kept_by_burns : ∀ {burns : List Half} {s t : State}, execAll (burns.map Instr.burn) s = some t →
    latch t.timer = latch s.timer
  low_returns : ∀ {s t : State}, exec low s = .next t →
    t.results = s.results ++ [.data (readoutLow (latch s.timer) s.timer.counter)]

theorem trReadout : Readout .rdTrh .rdTrl Timer.trLatch where
  high_latches h := by
    obtain ⟨-, hnext⟩ := whenRunning_next h
    cases hnext
    exact ⟨rfl, rfl⟩
  kept_by_burns h := (execAll_burns_latches h).1
  low_returns h := by
    obtain ⟨-, hnext⟩ := whenRunning_next h
    cases hnext
    simp

theorem atrReadout : Readout .rdAtrh .rdAtrl Timer.atrLatch where
  high_latches h := by
    obtain ⟨-, hnext⟩ := whenRunning_next h
    cases hnext
    exact ⟨rfl, rfl⟩
  kept_by_burns h := (execAll_burns_latches h).2.1
  low_returns h := by
    obtain ⟨-, hnext⟩ := whenRunning_next h
    cases hnext
    rfl

/-- What the high-byte read latched is what the low-byte read returns, whatever burns fall between. -/
theorem Readout.coherent {high low : Instr} {latch : Timer → ReadLatch} (h : Readout high low latch) {s u : State}
    {burns : List Half} (hrun : execAll (high :: burns.map Instr.burn ++ [low]) s = some u) :
    ∃ hi lo : Byte, hi ++ lo = s.timer.counter
      ∧ u.results = s.results ++ [.data hi] ++ burns.map (fun _ => Response.done) ++ [.data lo] := by
  obtain ⟨v, hhigh, hrest⟩ := execAll_cons_eq_some hrun
  obtain ⟨w, hburns, hlow⟩ := Option.bind_eq_some_iff.mp ((execAll_append _ [low] v).symm.trans hrest)
  obtain ⟨hlatch, hfirst⟩ := h.high_latches hhigh
  have hlast := h.low_returns (execAll_singleton_eq_some hlow)
  rw [h.kept_by_burns hburns, hlatch] at hlast
  refine ⟨hiByte s.timer.counter, loByte s.timer.counter, joinBytes_hiByte_loByte _, ?_⟩
  rw [hlast, (execAll_burns_latches hburns).2.2, hfirst]
  rfl

/-- Settles O32: both readouts are coherent. -/
theorem counterReadIsCoherent : Obligations.CounterReadIsCoherent := by
  intro s u burns op hop hrun
  simp only [List.mem_cons, List.not_mem_nil, or_false] at hop
  rcases hop with rfl | rfl
  · exact trReadout.coherent hrun
  · exact atrReadout.coherent hrun

/-! ### The inhibits -/

/-- Settles O34: of the effects that write a timer element each names its own. -/
theorem captureInhibitWindow : Obligations.CaptureInhibitWindow := by
  intro i s t hexec
  refine ⟨?_, ?_, fun hhigh hlow hreset => ?_, ?_⟩
  · rintro rfl
    obtain ⟨-, hnext⟩ := whenRunning_next hexec
    cases hnext
    rfl
  · rintro (rfl | ⟨fuse, rfl⟩)
    · obtain ⟨-, hnext⟩ := whenRunning_next hexec
      cases hnext
      simp
    · rw [exec_reset_next hexec]
      rfl
  · cases applied_of_exec hexec with
    | timerElement hr haccess =>
      cases haccess with
      | rdIcrh => exact absurd rfl hhigh
      | _ => rfl
    | followUp hr haccess =>
      rw [State.respond_timer, State.clearIfSeen_captureInhibited]
      cases haccess with
      | rdIcrl => exact absurd rfl hlow
      | _ => rfl
    | reset fuse hphase => exact absurd rfl (hreset fuse)
    | _ => simp
  · rintro hinhibited rising rfl
    obtain ⟨hrun, -⟩ := whenRunning_next hexec
    rw [exec_tcap_ignored hrun (.inr hinhibited)] at hexec
    cases hexec
    rfl

/-- A match of a burn sets OCF whether the output is inhibited or not (R180 step 7). -/
theorem burnAll_sets_ocf {n : Nat} {s : State} (h : s.timer.compareHit n) : (burnAll n s).timer.tsr.getLsbD 6 = true := by
  rw [burnAll_timer, burnedTsr_getLsbD]
  simp [h]

/-- Settles O35: as for the capture inhibit; the compare output comes from burns alone. -/
theorem compareInhibitWindow : Obligations.CompareInhibitWindow := by
  intro i s t hexec
  refine ⟨?_, ?_, fun hhigh hlow hreset => ?_, fun hinhibited => ?_, fun _ n hn hhit => ?_⟩
  · rintro ⟨data, rfl⟩
    obtain ⟨-, hnext⟩ := whenRunning_next hexec
    cases hnext
    rfl
  · rintro (⟨data, rfl⟩ | ⟨fuse, rfl⟩)
    · obtain ⟨-, hnext⟩ := whenRunning_next hexec
      cases hnext
      simp
    · rw [exec_reset_next hexec]
      rfl
  · cases applied_of_exec hexec with
    | timerElement hr haccess =>
      cases haccess with
      | wrOcrh data => exact absurd rfl (hhigh data)
      | _ => rfl
    | followUp hr haccess =>
      rw [State.respond_timer, State.clearIfSeen_compareInhibited]
      cases haccess with
      | wrOcrl data => exact absurd rfl (hlow data)
      | _ => rfl
    | reset fuse hphase => exact absurd rfl (hreset fuse)
    | _ => simp
  · obtain ⟨es, htrace, hes⟩ := (applied_of_exec hexec).emission
    have hnone : tcmpEvents es = [] := by
      cases hes with
      | silent | notified => rfl
      | burned n hi hports htcmp => rw [htcmp, burnedTcmp, if_neg (by simp [hinhibited])]
    rw [htrace, tcmpEvents_append, hnone, List.append_nil]
  · rcases hn with rfl | ⟨rfl, rfl⟩
    · rw [(exec_burn_next hexec).2]
      exact burnAll_sets_ocf hhit
    · obtain ⟨-, hentry⟩ := whenRunning_next hexec
      obtain ⟨src, -, rfl⟩ := serviceEntry_next hentry
      exact burnAll_sets_ocf (s := enterService src s) hhit

/-! ### The flags -/

theorem TimerFlag.mask_getLsbD (f : TimerFlag) (b : Nat) : f.mask.getLsbD b = decide (b = f.bit) := by
  by_cases hb : b < 8
  · revert f
    interval_cases b <;> intro f <;> cases f <;> rfl
  · have hne : b ≠ f.bit := by cases f <;> simp only [TimerFlag.bit] <;> omega
    rw [BitVec.getLsbD_of_ge _ _ (Nat.le_of_not_lt hb), decide_eq_false hne]

/-- What an operation `i` applied at `s` can make of `tsr` (10_state.md R32). -/
inductive TsrEffect (s : State) (i : Instr) : Byte → Prop
  | kept : TsrEffect s i s.timer.tsr
  | cleared {f : TimerFlag} {u : Timer} (haccess : FollowUp s.timer i f u)
      (hseen : s.timer.statusSeen.getLsbD f.bit = true) : TsrEffect s i (s.timer.tsr &&& ~~~f.mask)
  | captured (rising : Bool) (hi : i = .tcap rising) : TsrEffect s i (s.timer.tsr ||| TimerFlag.icf.mask)
  | burned (n : Nat) (hi : (∃ n, i = .burn n) ∨ i = .service) : TsrEffect s i (burnedTsr n s.timer)

theorem Applied.tsrEffect {s t : State} {i : Instr} (happ : Applied s i t) : TsrEffect s i t.timer.tsr := by
  cases happ with
  | timerElement hr haccess => cases haccess <;> exact .kept
  | @followUp _ f u _ hr haccess =>
    have hold : u.tsr = s.timer.tsr ∧ u.statusSeen = s.timer.statusSeen := by cases haccess <;> exact ⟨rfl, rfl⟩
    rw [State.respond_timer, State.clearIfSeen_tsr, State.setTimer_timer, hold.1, hold.2]
    split
    · next hseen => exact .cleared haccess hseen
    · exact .kept
  | capture rising hopen => exact .captured rising rfl
  | burn n hrun =>
    rw [State.respond_timer, burnAll_timer]
    exact .burned _ (.inl ⟨n, rfl⟩)
  | service src hrun hpick =>
    rw [State.respond_timer, burnAll_timer]
    exact .burned _ (.inr rfl)
  | reset fuse hphase => exact .kept
  | _ => simpa using TsrEffect.kept

section
variable {s : State} {i : Instr} {v : Byte}

/-- A flag is cleared only by its own follow-up access, after it has been seen. -/
theorem TsrEffect.flag_cleared (h : TsrEffect s i v) (f : TimerFlag) (hset : s.timer.tsr.getLsbD f.bit = true)
    (hclear : v.getLsbD f.bit = false) : (∃ u, FollowUp s.timer i f u) ∧ s.timer.statusSeen.getLsbD f.bit = true := by
  cases h with
  | kept => simp [hset] at hclear
  | captured => simp [hset] at hclear
  | burned => simp [burnedTsr_getLsbD, hset] at hclear
  | @cleared g u haccess hseen =>
    have hbit : (~~~g.mask).getLsbD f.bit = false := by simpa [hset] using hclear
    have hfg : f = g := by
      rw [BitVec.getLsbD_not, TimerFlag.mask_getLsbD] at hbit
      cases f <;> cases g <;> simp [TimerFlag.bit] at hbit ⊢
    subst hfg
    exact ⟨⟨u, haccess⟩, hseen⟩

/-- A bit is set only as ICF by a capture, or as OCF or TOF by a burn. -/
theorem TsrEffect.bit_set (h : TsrEffect s i v) {b : Nat} (hclear : s.timer.tsr.getLsbD b = false)
    (hset : v.getLsbD b = true) :
    b = 7 ∧ (∃ rising, i = .tcap rising) ∨ (b = 5 ∨ b = 6) ∧ ((∃ n, i = .burn n) ∨ i = .service) := by
  cases h with
  | kept => simp [hclear] at hset
  | cleared => simp [hclear] at hset
  | captured rising hi =>
    rw [BitVec.getLsbD_or, hclear, TimerFlag.mask_getLsbD, Bool.false_or, decide_eq_true_eq] at hset
    exact .inl ⟨hset, rising, hi⟩
  | burned n hi =>
    rw [burnedTsr_getLsbD, hclear, Bool.false_or] at hset
    simp only [Bool.or_eq_true, Bool.and_eq_true, decide_eq_true_eq] at hset
    exact .inr ⟨hset.imp And.left And.left, hi⟩

end

/-- Settles O36: each effect on `tsr`, bit by bit. -/
theorem flagsClearedOnlyByFollowUp : Obligations.FlagsClearedOnlyByFollowUp := by
  intro i s t hexec
  have heffect := (applied_of_exec hexec).tsrEffect
  refine ⟨fun hset hclear => ?_, fun hset hclear => ?_, fun hset hclear => ?_, fun hclear hset => ?_,
    fun b hb hclear hset => ?_, fun b hb => ?_⟩
  · obtain ⟨⟨u, haccess⟩, hseen⟩ := heffect.flag_cleared .icf hset hclear
    cases haccess
    exact ⟨rfl, hseen⟩
  · obtain ⟨⟨u, haccess⟩, hseen⟩ := heffect.flag_cleared .ocf hset hclear
    cases haccess
    exact ⟨⟨_, rfl⟩, hseen⟩
  · obtain ⟨⟨u, haccess⟩, hseen⟩ := heffect.flag_cleared .tof hset hclear
    cases haccess
    exact ⟨rfl, hseen⟩
  · rcases heffect.bit_set hclear hset with ⟨-, hi⟩ | ⟨hb, -⟩
    · exact hi
    · omega
  · rcases heffect.bit_set hclear hset with ⟨hb', -⟩ | ⟨-, hi⟩
    · omega
    · exact hi
  · generalize t.timer.tsr = v at heffect
    cases heffect with
    | kept => rfl
    | @cleared f u haccess hseen =>
      have hne : b ≠ f.bit := by cases f <;> simp only [TimerFlag.bit] <;> omega
      rw [BitVec.getLsbD_and, BitVec.getLsbD_not, TimerFlag.mask_getLsbD, decide_eq_false hne,
        decide_eq_true (show b < 8 by omega), Bool.not_false, Bool.and_true, Bool.and_true]
    | captured rising hi =>
      have hne : b ≠ TimerFlag.icf.bit := by simp only [TimerFlag.bit]; omega
      rw [BitVec.getLsbD_or, TimerFlag.mask_getLsbD, decide_eq_false hne, Bool.or_false]
    | burned n hi =>
      rw [burnedTsr_getLsbD, decide_eq_false (show b ≠ 5 by omega), decide_eq_false (show b ≠ 6 by omega)]
      simp

/-! ### Compare values that a burn passes over -/

/-- A compare register at 0, or at or below the wrapped end value, is not hit (41_timer.md R183). -/
theorem not_compareHit_of_passed_over {t : Timer} {n : Half}
    (h : t.outputCompareReg = 0#16 ∨
      t.wraps n.toNat ∧ t.outputCompareReg.toNat ≤ t.counter.toNat + (t.prescaler.toNat + n.toNat) / 16 - 0x10000) :
    ¬ t.compareHit n.toNat := by
  have hpre := t.prescaler.isLt
  have hn := n.isLt
  rintro ⟨habove, hbelow⟩
  rcases h with hzero | ⟨hwrap, hlow⟩
  · simp [hzero] at habove
  · omega

/-- Settles O40: a burn whose compare register is not hit sets no OCF and emits no compare output. -/
theorem compareValuesPassedOver : Obligations.CompareValuesPassedOver := by
  intro s t n hexec hover
  have hmiss := not_compareHit_of_passed_over hover
  rw [(exec_burn_next hexec).2]
  refine ⟨?_, ?_⟩
  · rw [State.respond_timer, burnAll_timer, burnedTsr_getLsbD]
    simp [hmiss]
  · rw [State.respond_trace, tcmpEvents_burnAll, burnedTcmp, if_neg (fun h => hmiss h.1), List.append_nil]

end Sys2Proof.Machine
end

section
/-! SUPPORT. The cycle advance and the two watchdogs (42_watchdog.md, 44_system.md section 1): the whole burn, the bits of the
control register, runs of burns that request no reset; with them the statements of the watchdogs. -/

namespace Sys2Proof.Machine

/-! ### The whole burn -/

theorem exec_burn_of_running {s : State} (hrun : s.Running) (n : Half) :
    exec (.burn n) s = .next ((burnAll n.toNat s).respond .done) := by
  rw [exec_burn, whenRunning_of_running hrun]

/-- Settles O38: the elements of `burnAll`, with the two timeout tests as they stand. -/
theorem burnAdvancesAll : Obligations.BurnAdvancesAll := by
  intro s n hrun
  refine ⟨_, exec_burn_of_running hrun n, ?_, fun k hk hne => ?_, fun hhit hopen => ?_, fun hp => ?_, fun hn => ?_,
    fun hp => ?_, fun hn => ?_, s.cfg.hasPcop && pcopTimesOut n.toNat s.pcop, s.cfg.hasNcop && ncopTimesOut n.toNat s.ncop,
    ?_, ?_, ?_, ?_, ?_⟩
  · rw [burnAll_eq]
    rfl
  · rw [State.respond_pending, burnAll_pending, putBit_getLsbD _ _ _ _ hk, if_neg hne]
  · refine comparePin_of_lastTcmp ?_
    rw [State.respond_trace, lastTcmp_burnAll, if_pos ⟨hhit, hopen⟩]
  · simp [hp]
  · simp [hn]
  · simp [hp]
  · simp [hn]
  · exact (Bool.and_assoc ..).symm
  · exact (Bool.and_assoc ..).symm
  · cases hp : s.cfg.hasPcop <;> simp [hp]
  · simp [hrun.2]
  · exact burnAll_trace n.toNat s

/-! ### Two burns and one -/

/-- The prescaler and the counter of two burns are those of one (41_timer.md R182). -/
theorem timer_chunking (c p n m : Nat) :
    ((p + n) % 16 + m) % 16 = (p + (n + m)) % 16
      ∧ ((c + (p + n) / 16) % 65536 + ((p + n) % 16 + m) / 16) % 65536 = (c + (p + (n + m)) / 16) % 65536 := by
  omega

/-- A counter wraps in two burns iff it wraps in one of their sum. -/
theorem wraps_chunking {c p n m : Nat} (hc : c < 65536) (hshort : (p + (n + m)) / 16 < 65536) :
    (65536 ≤ c + (p + n) / 16 ∨ 65536 ≤ (c + (p + n) / 16) % 65536 + ((p + n) % 16 + m) / 16)
      ↔ 65536 ≤ c + (p + (n + m)) / 16 := by
  omega

theorem threshold_dvd (copcr : Byte) : threshold copcr ∣ 2 ^ 21 := by
  have hselect : timeoutSelect copcr < 4 := (copcr.extractLsb' 0 2).isLt
  exact pow_dvd_pow 2 (by omega)

/-- After a burn that does not time out, the rest of a longer burn does iff the longer burn does (R182, D18). -/
theorem pcopTimesOut_chunking {p : Pcop} {n : Nat} (h : pcopTimesOut n p = false) (m : Nat) :
    pcopTimesOut m { p with counter := BitVec.ofNat 21 (p.counter.toNat + n) } = pcopTimesOut (n + m) p := by
  unfold pcopTimesOut at h ⊢
  cases henabled : p.copcr.getLsbD 2 with
  | false => simp
  | true =>
    rw [henabled, Bool.true_and, decide_eq_false_iff_not, not_le] at h
    have hmod : (p.counter.toNat + n) % 2 ^ 21 % threshold p.copcr = p.counter.toNat % threshold p.copcr + n := by
      rw [Nat.mod_mod_of_dvd _ (threshold_dvd p.copcr), ← Nat.mod_add_mod, Nat.mod_eq_of_lt h]
    rw [BitVec.toNat_ofNat, hmod, Nat.add_assoc]

theorem ncopTimesOut_chunking {c : Ncop} {n : Nat} (h : ncopTimesOut n c = false) (m : Nat) :
    ncopTimesOut m { c with counter := BitVec.ofNat 17 (c.counter.toNat + n) } = ncopTimesOut (n + m) c := by
  unfold ncopTimesOut at h ⊢
  cases henabled : c.enabled with
  | false => simp
  | true =>
    rw [henabled, Bool.true_and, decide_eq_false_iff_not, not_le] at h
    rw [BitVec.toNat_ofNat, Nat.mod_eq_of_lt h, Nat.add_assoc]

theorem ofNat_toNat_ofNat_add (w a b : Nat) : BitVec.ofNat w ((BitVec.ofNat w a).toNat + b) = BitVec.ofNat w (a + b) := by
  apply BitVec.eq_of_toNat_eq
  simp

/-- Where the first of two burns requests no reset, the two and one of their sum agree on everything but OCF and its events. -/
theorem burnAll_chunking {s : State} {n : Nat} (hquiet : (burnAll n s).resetPending = false) (m : Nat)
    (hshort : n + m < 65536) :
    (burnAll m (burnAll n s)).timer.counter = (burnAll (n + m) s).timer.counter
      ∧ (burnAll m (burnAll n s)).timer.prescaler = (burnAll (n + m) s).timer.prescaler
      ∧ (burnAll m (burnAll n s)).timer.tsr.getLsbD 5 = (burnAll (n + m) s).timer.tsr.getLsbD 5
      ∧ (burnAll m (burnAll n s)).pcop = (burnAll (n + m) s).pcop
      ∧ (burnAll m (burnAll n s)).ncop = (burnAll (n + m) s).ncop
      ∧ (burnAll m (burnAll n s)).resetPending = (burnAll (n + m) s).resetPending := by
  obtain ⟨⟨hnone, hpcop⟩, hncop⟩ : (s.resetPending = false ∧ (s.cfg.hasPcop && pcopTimesOut n s.pcop) = false)
      ∧ (s.cfg.hasNcop && ncopTimesOut n s.ncop) = false := by
    simpa only [burnAll_resetPending, Bool.or_eq_false_iff] using hquiet
  have hcounter := s.timer.counter.isLt
  have hprescaler := s.timer.prescaler.isLt
  obtain ⟨hpre, hcount⟩ := timer_chunking s.timer.counter.toNat s.timer.prescaler.toNat n m
  refine ⟨?_, ?_, ?_, ?_, ?_, ?_⟩
  · apply BitVec.eq_of_toNat_eq
    simpa using hcount
  · apply BitVec.eq_of_toNat_eq
    simpa using hpre
  · have hwraps := wraps_chunking (n := n) (m := m) hcounter (p := s.timer.prescaler.toNat) (by omega)
    simp only [burnAll_timer, burnedTsr_getLsbD]
    simp [Timer.wraps, ← hwraps, Bool.or_assoc]
  · cases hp : s.cfg.hasPcop with
    | false => simp [hp]
    | true =>
      rw [hp, Bool.true_and] at hpcop
      simp only [burnAll_pcop, burnAll_cfg, hp, if_true, hpcop, Bool.false_eq_true, if_false, pcopTimesOut_chunking hpcop,
        ofNat_toNat_ofNat_add, Nat.add_assoc]
  · cases hn : s.cfg.hasNcop with
    | false => simp [hn]
    | true => simp only [burnAll_ncop, burnAll_cfg, hn, if_true, ofNat_toNat_ofNat_add, Nat.add_assoc]
  · have hpcop' : (s.cfg.hasPcop && pcopTimesOut m (burnAll n s).pcop) = (s.cfg.hasPcop && pcopTimesOut (n + m) s.pcop) := by
      cases hp : s.cfg.hasPcop with
      | false => rfl
      | true =>
        rw [hp, Bool.true_and] at hpcop
        simp only [burnAll_pcop, hp, if_true, hpcop, Bool.false_eq_true, if_false, pcopTimesOut_chunking hpcop]
    have hncop' : (s.cfg.hasNcop && ncopTimesOut m (burnAll n s).ncop) = (s.cfg.hasNcop && ncopTimesOut (n + m) s.ncop) := by
      cases hn : s.cfg.hasNcop with
      | false => rfl
      | true =>
        rw [hn, Bool.true_and] at hncop
        simp only [burnAll_ncop, hn, if_true, ncopTimesOut_chunking hncop]
    rw [burnAll_resetPending, burnAll_cfg, hquiet, hpcop', hncop', burnAll_resetPending, hnone]

/-- A response is no matter to a burn. -/
theorem burnAll_respond (n : Nat) (s : State) (r : Response) : burnAll n (s.respond r) = (burnAll n s).respond r := by
  simp only [burnAll_eq, timerBurn_eq, pcopBurn_eq, ncopBurn_eq]
  rfl

/-- Settles O39: the second burn shows that the first requested no reset. -/
theorem burnChunkingLaw : Obligations.BurnChunkingLaw := by
  intro s t u v n m k hsum hfirst hsecond hone
  obtain ⟨-, rfl⟩ := exec_burn_next hfirst
  obtain ⟨hrun, rfl⟩ := exec_burn_next hsecond
  obtain ⟨-, rfl⟩ := exec_burn_next hone
  have hk := k.isLt
  rw [hsum, burnAll_respond]
  exact burnAll_chunking hrun.2 m.toNat (by omega)

/-! ### Reset requests -/

/-- A burn that raises a reset request emits its event (R224). -/
theorem burnAll_requests {n : Nat} {s : State} (hnone : s.resetPending = false) (h : (burnAll n s).resetPending = true) :
    ∃ es src, (burnAll n s).trace = s.trace ++ es ∧ Event.resetReq src ∈ es := by
  rw [burnAll_resetPending, hnone, Bool.false_or, Bool.or_eq_true] at h
  rw [burnAll_trace, List.append_assoc, List.append_assoc]
  rcases h with h | h
  · exact ⟨_, .pcop, rfl, by simp [h]⟩
  · exact ⟨_, .ncop, rfl, by simp [h]⟩

/-- Settles O50: only the burns raise a request, with its event, and only RESET takes it back and samples the fuse. -/
theorem resetRequestLife : Obligations.ResetRequestLife := by
  intro i s t hexec
  refine ⟨fun hnone hsome => ?_, fun hsome hnone => ?_, fun henabled => ?_⟩
  · cases applied_of_exec hexec with
    | burn n hrun =>
      exact ⟨.inl ⟨n, rfl⟩, burnAll_requests hnone hsome⟩
    | service src hrun hpick =>
      obtain ⟨es, dog, htrace, hmem⟩ := burnAll_requests (s := enterService src s) hnone hsome
      refine ⟨.inr rfl, entryEvents s.cfg src ++ es, dog, ?_, List.mem_append_right _ hmem⟩
      rw [State.respond_trace, htrace, enterService_trace, List.append_assoc]
    | reset fuse hphase => cases hsome
    | _ => simp [hnone] at hsome
  · cases applied_of_exec hexec with
    | reset fuse hphase => exact ⟨fuse, rfl⟩
    | _ => simp [hsome] at hnone
  · cases applied_of_exec hexec with
    | reset fuse hphase => exact ⟨fuse, rfl⟩
    | burn | service =>
      refine absurd ?_ henabled
      rw [State.respond_ncop, burnAll_ncop]
      split <;> rfl
    | _ => simp at henabled

/-! ### The programmable COP's registers -/

/-- A control write that is not ignored, bit by bit (R205). -/
theorem controlWrite_getLsbD {data copcr : Byte} (h : ¬(copcr.getLsbD 2 = true ∧ data.getLsbD 2 = false)) {b : Nat}
    (hb : b < 8) :
    (controlWrite data copcr).getLsbD b =
      (copcr.getLsbD b && decide (b = 4) || copcr.getLsbD b && decide (b = 2) || data.getLsbD b && decide (b < 3)) := by
  have hcopf : copfMask.getLsbD b = decide (b = 4) := by interval_cases b <;> rfl
  have hpcope : pcopeMask.getLsbD b = decide (b = 2) := by interval_cases b <;> rfl
  have hwritable : copcrWritable.getLsbD b = decide (b < 3) := by interval_cases b <;> rfl
  rw [controlWrite, if_neg h, BitVec.getLsbD_or, BitVec.getLsbD_or, BitVec.getLsbD_and, BitVec.getLsbD_and,
    BitVec.getLsbD_and, hcopf, hpcope, hwritable]

theorem controlWrite_of_ignored {data copcr : Byte} (h : copcr.getLsbD 2 = true ∧ data.getLsbD 2 = false) :
    controlWrite data copcr = copcr := if_pos h

/-- COPF is never written, and the enable is never cleared (R205). -/
theorem controlWrite_copf (data copcr : Byte) : (controlWrite data copcr).getLsbD 4 = copcr.getLsbD 4 := by
  by_cases h : copcr.getLsbD 2 = true ∧ data.getLsbD 2 = false
  · rw [controlWrite_of_ignored h]
  · rw [controlWrite_getLsbD h (by omega)]
    simp

theorem controlWrite_pcope (data copcr : Byte) :
    (controlWrite data copcr).getLsbD 2 = (copcr.getLsbD 2 || data.getLsbD 2) := by
  by_cases h : copcr.getLsbD 2 = true ∧ data.getLsbD 2 = false
  · rw [controlWrite_of_ignored h, h.1, Bool.true_or]
  · rw [controlWrite_getLsbD h (by omega)]
    simp

/-- What an operation `i` applied at `s` can make of `copcr` (10_state.md R40). -/
inductive CopcrEffect (s : State) (i : Instr) : Byte → Prop
  | kept : CopcrEffect s i s.pcop.copcr
  | read (hi : i = .rdCopcr) : CopcrEffect s i (s.pcop.copcr &&& ~~~copfMask)
  | written (data : Byte) (hi : i = .wrCopcr data) : CopcrEffect s i (controlWrite data s.pcop.copcr)
  | timedOut (hi : (∃ n, i = .burn n) ∨ i = .service) : CopcrEffect s i (s.pcop.copcr ||| 0x10#8)
  | reset (fuse : Bool) (hi : i = .reset fuse) : CopcrEffect s i (s.pcop.copcr &&& copfMask)

/-- A burn sets COPF or leaves `copcr` alone (R212). -/
theorem CopcrEffect.burned {s : State} {i : Instr} (hi : (∃ n, i = .burn n) ∨ i = .service) {u : State}
    (hpcop : u.pcop = s.pcop) (n : Nat) : CopcrEffect s i (burnAll n u).pcop.copcr := by
  rw [burnAll_pcop, hpcop]
  cases u.cfg.hasPcop with
  | false => exact .kept
  | true =>
    cases hout : pcopTimesOut n s.pcop with
    | false => exact .kept
    | true => exact .timedOut hi

theorem Applied.copcrEffect {s t : State} {i : Instr} (happ : Applied s i t) : CopcrEffect s i t.pcop.copcr := by
  cases happ with
  | pcopAccess hr haccess =>
    cases haccess with
    | wrCoprst data =>
      rw [State.respond_pcop, State.setPcop_pcop, disarmWrite_copcr]
      exact .kept
    | rdCopcr => exact .read rfl
    | wrCopcr data => exact .written data rfl
  | burn n hrun => exact .burned (.inl ⟨n, rfl⟩) rfl _
  | service src hrun hpick => exact .burned (s := s) (u := enterService src s) (.inr rfl) rfl _
  | reset fuse hphase =>
    rw [State.respond_pcop, deviceReset_pcop]
    split
    · exact .reset fuse rfl
    · exact .kept
  | _ => simpa using CopcrEffect.kept

/-- Settles O45: each effect on `copcr`, at its two bits. -/
theorem faultAndEnableBits : Obligations.FaultAndEnableBits := by
  intro i s t hexec
  have heffect := (applied_of_exec hexec).copcrEffect
  generalize t.pcop.copcr = v at heffect
  cases heffect with
  | kept => simp +contextual
  | read hi => simp +contextual [hi, copfMask]
  | written data hi =>
    rw [controlWrite_copf, controlWrite_pcope]
    cases s.pcop.copcr.getLsbD 4 <;> cases s.pcop.copcr.getLsbD 2 <;> simp [hi]
  | timedOut hi => simp +contextual [hi]
  | reset fuse hi => simp +contextual [hi, copfMask]

/-- Settles O44: the ignored write, and the effective one bit by bit. -/
theorem copcrWriteSetOnlyEnable : Obligations.CopcrWriteSetOnlyEnable := by
  intro s data hrun hp
  refine ⟨controlWrite data s.pcop.copcr, ?_, fun henabled hclear => controlWrite_of_ignored ⟨henabled, hclear⟩, fun h => ?_⟩
  · rw [exec_wrCopcr, whenRunning_of_running hrun, if_pos hp]
    rfl
  · have hwrite : ¬(s.pcop.copcr.getLsbD 2 = true ∧ data.getLsbD 2 = false) := by
      rintro ⟨henabled, hclear⟩
      rcases h with h | h
      · rw [henabled] at h; cases h
      · rw [hclear] at h; cases h
    refine ⟨?_, ?_, ?_, controlWrite_copf .., ?_⟩
    · rw [controlWrite_getLsbD hwrite (by omega)]
      simp
    · rw [controlWrite_getLsbD hwrite (by omega)]
      simp
    · rw [controlWrite_pcope]
      rcases h with h | h
      · rw [h, Bool.false_or]
      · rw [h, Bool.or_true]
    · rw [and_compl_eq_zero_iff]
      intro b hb
      rw [controlWrite_getLsbD hwrite hb]
      interval_cases b <;> simp

/-- The counter after a disarm write: only the write that completes the sequence clears bits (R202). -/
theorem disarmWrite_counter (clear : BitVec 21) (data : Byte) (p : Pcop) :
    (disarmWrite clear data p).counter =
      if data = 0xAA#8 ∧ p.disarmStage = 1#8 then p.counter &&& ~~~clear else p.counter := by
  unfold disarmWrite
  split
  · next h55 => rw [if_neg (by rintro ⟨rfl, -⟩; revert h55; decide)]
  · split
    · rfl
    · rfl

theorem disarmWrite_frame (clear : BitVec 21) (data : Byte) (p : Pcop) :
    disarmWrite clear data p =
      { p with
        counter := (disarmWrite clear data p).counter
        disarmStage := (disarmWrite clear data p).disarmStage } := by
  unfold disarmWrite
  split
  · rfl
  · split <;> rfl

theorem exec_wrCoprst_of_running {s : State} (hrun : s.Running) (hp : s.cfg.hasPcop = true) (data : Byte) :
    exec (.wrCoprst data) s = .next ((s.setPcop (disarmWrite s.cfg.pcopDisarmClear data s.pcop)).respond .done) := by
  rw [exec_wrCoprst, whenRunning_of_running hrun, if_pos hp]

/-- Settles O42: the stage and the counter after a disarm write. -/
theorem disarmSequence : Obligations.DisarmSequence := by
  intro s data hrun hp
  refine ⟨_, exec_wrCoprst_of_running hrun hp data, ?_, disarmWrite_disarmStage .., fun b hb => ?_⟩
  · exact congrArg (fun q => (s.setPcop q).respond .done) (disarmWrite_frame ..)
  · rw [State.respond_pcop, State.setPcop_pcop, disarmWrite_counter]
    split
    · rw [BitVec.getLsbD_and, BitVec.getLsbD_not, decide_eq_true hb, Bool.true_and]
    · rfl

/-! ### Accesses without an effect, and WRCOPR -/

/-- Settles O46: each access is one response, with a free byte drawn where the value is not defined. -/
theorem undefinedAccessesChangeNothing : Obligations.UndefinedAccessesChangeNothing := by
  intro s off data
  refine ⟨fun hrun i hi => ?_, fun hrun i hi => ?_, fun i hi => ?_, fun hp => ⟨fun hrun => ?_, ?_, fun hrun i hi => ?_⟩⟩
  · simp only [List.mem_cons, List.not_mem_nil, or_false] at hi
    rcases hi with rfl | rfl | rfl | rfl | rfl | rfl | rfl | rfl <;> exact whenRunning_of_running hrun _
  · simp only [List.mem_cons, List.not_mem_nil, or_false] at hi
    rcases hi with rfl | rfl <;> exact whenRunning_of_running hrun _
  · simp only [List.mem_cons, List.not_mem_nil, or_false] at hi
    rcases hi with rfl | rfl <;> rfl
  · rw [exec_rdCopcr, whenRunning_of_running hrun, if_neg (by simp [hp])]
    rfl
  · rw [exec_peekCopcr, if_neg (by simp [hp])]
    rfl
  · simp only [List.mem_cons, List.not_mem_nil, or_false] at hi
    rcases hi with rfl | rfl
    · rw [exec_wrCoprst, whenRunning_of_running hrun, if_neg (by simp [hp])]
      rfl
    · rw [exec_wrCopcr, whenRunning_of_running hrun, if_neg (by simp [hp])]
      rfl

/-- Settles O48: the counter is cleared or nothing is. -/
theorem wrcoprClearsCounter : Obligations.WrcoprClearsCounter := by
  intro s data hrun
  rw [exec_wrcopr, whenRunning_of_running hrun]
  split <;> rfl

/-! ### Runs of burns -/

/-- What holds of the burns left and of the state, and is kept by the next burn, holds at the end of them all. -/
theorem execAll_burns_induction {P : List Half → State → Prop}
    (hstep : ∀ n burns s, P (n :: burns) s → ∃ t, exec (.burn n) s = .next t ∧ P burns t) {burns : List Half} {s : State}
    (h : P burns s) : ∃ t, execAll (burns.map Instr.burn) s = some t ∧ P [] t := by
  induction burns generalizing s with
  | nil => exact ⟨s, rfl, h⟩
  | cons n burns ih =>
    obtain ⟨t, hexec, ht⟩ := hstep n burns s h
    obtain ⟨u, hrest, hu⟩ := ih ht
    refine ⟨u, ?_, hu⟩
    rw [List.map_cons, execAll, hexec]
    exact hrest

theorem cyclesTotal_cons (n : Half) (burns : List Half) : cyclesTotal (n :: burns) = n.toNat + cyclesTotal burns := rfl

/-- A burn that makes neither watchdog time out leaves the block running. -/
theorem burnAll_running {n : Nat} {s : State} (hrun : s.Running) (hp : s.cfg.hasPcop = true → pcopTimesOut n s.pcop = false)
    (hn : s.cfg.hasNcop = true → ncopTimesOut n s.ncop = false) (r : Response) : ((burnAll n s).respond r).Running := by
  refine ⟨(burnAll_phase n s).trans hrun.1, ?_⟩
  rw [State.respond_resetPending, burnAll_resetPending, hrun.2, Bool.false_or, Bool.or_eq_false_iff]
  refine ⟨?_, ?_⟩
  · cases h : s.cfg.hasPcop with
    | false => rfl
    | true => exact hp h
  · cases h : s.cfg.hasNcop with
    | false => rfl
    | true => exact hn h

/-! ### The period of the non-programmable COP -/

theorem pcopTimesOut_of_disabled {p : Pcop} (h : p.copcr.getLsbD 2 = false) (n : Nat) : pcopTimesOut n p = false := by
  rw [pcopTimesOut, h, Bool.false_and]

theorem ncopTimesOut_of_disabled {c : Ncop} (h : c.enabled = false) (n : Nat) : ncopTimesOut n c = false := by
  rw [ncopTimesOut, h, Bool.false_and]

/-- In a period of the non-programmable COP: the programmable COP cannot request, and the counter and the burns left make up
`total` cycles, fewer than the period. -/
structure InPeriod (total : Nat) (burns : List Half) (s : State) : Prop where
  running : s.Running
  present : s.cfg.hasNcop = true
  enabled : s.ncop.enabled = true
  pcop_silent : s.cfg.hasPcop = false ∨ s.pcop.copcr.getLsbD 2 = false
  cycles : s.ncop.counter.toNat + cyclesTotal burns = total
  short : total < 2 ^ 17

theorem InPeriod.pcop_no_timeout {total : Nat} {burns : List Half} {s : State} (h : InPeriod total burns s) (n : Nat)
    (hp : s.cfg.hasPcop = true) : pcopTimesOut n s.pcop = false := by
  rcases h.pcop_silent with habsent | hdisabled
  · rw [habsent] at hp
    cases hp
  · exact pcopTimesOut_of_disabled hdisabled n

theorem InPeriod.burn {total : Nat} {n : Half} {burns : List Half} {s : State} (h : InPeriod total (n :: burns) s) :
    InPeriod total burns ((burnAll n.toNat s).respond .done) := by
  have hcycles := h.cycles
  have hshort := h.short
  rw [cyclesTotal_cons] at hcycles
  have hfits : s.ncop.counter.toNat + n.toNat < 2 ^ 17 := by omega
  have hncop : ncopTimesOut n.toNat s.ncop = false := by
    rw [ncopTimesOut, decide_eq_false (not_le.mpr hfits), Bool.and_false]
  have hcounter : (burnAll n.toNat s).ncop = { s.ncop with counter := BitVec.ofNat 17 (s.ncop.counter.toNat + n.toNat) } := by
    rw [burnAll_ncop, if_pos h.present]
  refine ⟨burnAll_running h.running (h.pcop_no_timeout _) (fun _ => hncop) _, ?_, ?_, ?_, ?_, hshort⟩
  · rw [State.respond_cfg, burnAll_cfg, h.present]
  · rw [State.respond_ncop, hcounter, h.enabled]
  · rw [State.respond_cfg, burnAll_cfg, State.respond_pcop, burnAll_pcop]
    refine h.pcop_silent.imp_right fun hdisabled => ?_
    rw [pcopTimesOut_of_disabled hdisabled]
    split <;> exact hdisabled
  · rw [State.respond_ncop, hcounter, BitVec.toNat_ofNat, Nat.mod_eq_of_lt hfits]
    omega

/-- Settles O49: the burns stay in the period, and the one that completes it times out. -/
theorem ncopPeriod : Obligations.NcopPeriod := by
  intro s burns hrun hpresent henabled hzero hpcop hshort
  have hstart : InPeriod (cyclesTotal burns) burns s :=
    ⟨hrun, hpresent, henabled, hpcop, by simp [hzero], hshort⟩
  obtain ⟨t, hexec, ht⟩ := execAll_burns_induction
    (fun n rest u hu => ⟨_, exec_burn_of_running hu.running n, hu.burn⟩) hstart
  refine ⟨t, hexec, ht.running, ht.cycles, fun n hn => ⟨_, exec_burn_of_running ht.running n, ?_⟩⟩
  have hcounter : t.ncop.counter.toNat = cyclesTotal burns := ht.cycles
  have hout : ncopTimesOut n.toNat t.ncop = true := by
    rw [ncopTimesOut, ht.enabled, hcounter, decide_eq_true hn, Bool.and_self]
  rw [State.respond_resetPending, burnAll_resetPending, ht.present, hout, Bool.and_self, Bool.or_true]

/-! ### A programmable COP serviced in time -/

/-- A counter that stays below the next multiple of 2^15 does not time out, whatever CM is (D18). -/
theorem pcopTimesOut_of_low_bits {p : Pcop} {n : Nat} (h : p.counter.toNat % 2 ^ 15 + n < 2 ^ 15) :
    pcopTimesOut n p = false := by
  obtain ⟨m, hm, hpos⟩ : ∃ m, threshold p.copcr = 2 ^ 15 * m ∧ 0 < m :=
    ⟨2 ^ (2 * timeoutSelect p.copcr), pow_add .., Nat.two_pow_pos _⟩
  have hmod : p.counter.toNat % threshold p.copcr = p.counter.toNat % 2 ^ 15 + 2 ^ 15 * (p.counter.toNat / 2 ^ 15 % m) := by
    rw [hm, Nat.mod_mul]
  have hlt : p.counter.toNat / 2 ^ 15 % m + 1 ≤ m := Nat.mod_lt _ hpos
  have hmul : 2 ^ 15 * (p.counter.toNat / 2 ^ 15 % m) + 2 ^ 15 ≤ 2 ^ 15 * m := by
    have hle := Nat.mul_le_mul_left (2 ^ 15) hlt
    rwa [Nat.mul_add, Nat.mul_one] at hle
  rw [pcopTimesOut, decide_eq_false (by omega), Bool.and_false]

theorem and_low_eq_zero_iff (c : BitVec 21) : c &&& 0x007FFF#21 = 0#21 ↔ c.toNat % 2 ^ 15 = 0 := by
  rw [← BitVec.toNat_inj, BitVec.toNat_and, show (0x007FFF#21).toNat = 2 ^ 15 - 1 from rfl, Nat.and_two_pow_sub_one_eq_mod]
  rfl

/-- The literal disarm mask takes the counter down to a multiple of 2^15 (D19). -/
theorem toNat_and_not_low (c : BitVec 21) : (c &&& ~~~0x007FFF#21).toNat = c.toNat / 2 ^ 15 * 2 ^ 15 := by
  have hshift : c &&& ~~~0x007FFF#21 = c >>> 15 <<< 15 := by
    apply BitVec.eq_of_getLsbD_eq
    intro b hb
    rw [BitVec.getLsbD_and, BitVec.getLsbD_shiftLeft, BitVec.getLsbD_ushiftRight]
    interval_cases b <;> simp
  have hc := c.isLt
  rw [hshift, BitVec.toNat_shiftLeft, BitVec.toNat_ushiftRight, Nat.shiftRight_eq_div_pow, Nat.shiftLeft_eq,
    Nat.mod_eq_of_lt (by omega)]

/-- The premises of the guarantee (R213 (a)): the programmable COP is present with the literal disarm mask, the other watchdog
cannot request, and the counter's low 15 bits are 0. -/
structure Serviced (s : State) : Prop where
  running : s.Running
  present : s.cfg.hasPcop = true
  mask : s.cfg.pcopDisarmClear = 0x007FFF#21
  ncop_silent : s.cfg.hasNcop = false ∨ s.ncop.enabled = false
  low_bits : s.pcop.counter.toNat % 2 ^ 15 = 0

/-- In a service interval that began at `start`: the counter and the burns left stay below the next multiple of 2^15. -/
structure InInterval (start : State) (burns : List Half) (s : State) : Prop where
  running : s.Running
  cfg_eq : s.cfg = start.cfg
  ncop_enabled_eq : s.ncop.enabled = start.ncop.enabled
  copcr_eq : s.pcop.copcr = start.pcop.copcr
  above : start.pcop.counter.toNat ≤ s.pcop.counter.toNat
  below : s.pcop.counter.toNat + cyclesTotal burns < start.pcop.counter.toNat + 2 ^ 15

theorem InInterval.burn {start : State} (hstart : Serviced start) {n : Half} {burns : List Half} {s : State}
    (h : InInterval start (n :: burns) s) : InInterval start burns ((burnAll n.toNat s).respond .done) := by
  have habove := h.above
  have hbelow := h.below
  have hlow := hstart.low_bits
  have hstartlt := start.pcop.counter.isLt
  rw [cyclesTotal_cons] at hbelow
  have hpcop : pcopTimesOut n.toNat s.pcop = false := pcopTimesOut_of_low_bits (by omega)
  have hncop : s.cfg.hasNcop = true → ncopTimesOut n.toNat s.ncop = false := by
    intro hpresent
    rcases hstart.ncop_silent with habsent | hdisabled
    · rw [h.cfg_eq, habsent] at hpresent
      cases hpresent
    · exact ncopTimesOut_of_disabled (h.ncop_enabled_eq.trans hdisabled) _
  have hburned : (burnAll n.toNat s).pcop = { s.pcop with counter := BitVec.ofNat 21 (s.pcop.counter.toNat + n.toNat) } := by
    rw [burnAll_pcop, if_pos (h.cfg_eq ▸ hstart.present), hpcop]
    rfl
  have hcounter : (burnAll n.toNat s).pcop.counter.toNat = s.pcop.counter.toNat + n.toNat := by
    rw [hburned, BitVec.toNat_ofNat, Nat.mod_eq_of_lt (by omega)]
  refine ⟨burnAll_running h.running (fun _ => hpcop) hncop _, (burnAll_cfg ..).trans h.cfg_eq, ?_, ?_, ?_, ?_⟩
  · rw [State.respond_ncop, burnAll_ncop, ← h.ncop_enabled_eq]
    split <;> rfl
  · rw [State.respond_pcop, hburned, h.copcr_eq]
  · rw [State.respond_pcop, hcounter]
    omega
  · rw [State.respond_pcop, hcounter]
    omega

/-- The two disarm writes in a row clear the disarm bits and leave the stage at 0 (R202). -/
theorem execAll_disarm {s : State} (hrun : s.Running) (hp : s.cfg.hasPcop = true) :
    execAll [.wrCoprst 0x55#8, .wrCoprst 0xAA#8] s =
      some (((s.setPcop
        { s.pcop with counter := s.pcop.counter &&& ~~~s.cfg.pcopDisarmClear, disarmStage := 0 }).respond .done).respond
          .done) := by
  have harm := exec_wrCoprst_of_running hrun hp 0x55#8
  have hdisarm := exec_wrCoprst_of_running
    (s := (s.setPcop (disarmWrite s.cfg.pcopDisarmClear 0x55#8 s.pcop)).respond .done) hrun hp 0xAA#8
  simp only [execAll, harm, hdisarm]
  rfl

/-- The two disarm writes take the counter back to where the interval began, and touch nothing else but the stage. -/
theorem InInterval.disarm {start : State} (hstart : Serviced start) {s : State} (h : InInterval start [] s) :
    ∃ t, execAll [.wrCoprst 0x55#8, .wrCoprst 0xAA#8] s = some t ∧ Serviced t ∧ t.pcop.copcr = start.pcop.copcr
      ∧ t.pcop.counter = start.pcop.counter := by
  have hpresent : s.cfg.hasPcop = true := h.cfg_eq ▸ hstart.present
  have hmask : s.cfg.pcopDisarmClear = 0x007FFF#21 := h.cfg_eq ▸ hstart.mask
  have hcounter : s.pcop.counter &&& ~~~s.cfg.pcopDisarmClear = start.pcop.counter := by
    have habove := h.above
    have hbelow : s.pcop.counter.toNat + 0 < start.pcop.counter.toNat + 2 ^ 15 := h.below
    have hlow := hstart.low_bits
    apply BitVec.eq_of_toNat_eq
    rw [hmask, toNat_and_not_low]
    omega
  refine ⟨_, execAll_disarm h.running hpresent, ⟨h.running, hpresent, hmask, ?_, ?_⟩, h.copcr_eq, hcounter⟩
  · exact h.cfg_eq ▸ h.ncop_enabled_eq ▸ hstart.ncop_silent
  · exact (congrArg (fun c => c.toNat % 2 ^ 15) hcounter).trans hstart.low_bits

/-- One service interval of fewer than 2^15 cycles. -/
theorem Serviced.interval {s : State} (h : Serviced s) {burns : List Half} (hshort : cyclesTotal burns < 2 ^ 15) :
    ∃ t, execAll (serviceInterval burns) s = some t ∧ Serviced t ∧ t.pcop.copcr = s.pcop.copcr
      ∧ t.pcop.counter = s.pcop.counter := by
  have hbegin : InInterval s burns s := ⟨h.running, rfl, rfl, rfl, le_refl _, Nat.add_lt_add_left hshort _⟩
  obtain ⟨u, hburns, hu⟩ := execAll_burns_induction
    (fun n rest v hv => ⟨_, exec_burn_of_running hv.running n, hv.burn h⟩) hbegin
  obtain ⟨t, hdisarm, ht⟩ := hu.disarm h
  refine ⟨t, ?_, ht⟩
  rw [serviceInterval, execAll_append, hburns]
  exact hdisarm

/-- Settles O47: each interval hands the premises on to the next. -/
theorem servicedPcopNeverTimesOut : Obligations.ServicedPcopNeverTimesOut := by
  intro s intervals hrun hpresent hmask hncop hlow hshort
  have hserviced : Serviced s := ⟨hrun, hpresent, hmask, hncop, (and_low_eq_zero_iff _).mp hlow⟩
  clear hrun hpresent hmask hncop hlow
  induction intervals generalizing s with
  | nil => exact ⟨s, rfl, hserviced.running, rfl, rfl⟩
  | cons burns intervals ih =>
    obtain ⟨t, hfirst, ht, hcopcr, hcounter⟩ := hserviced.interval (hshort burns (.head _))
    obtain ⟨u, hrest, hrun, hcopcr', hcounter'⟩ := ih t (fun b hb => hshort b (.tail _ hb)) ht
    refine ⟨u, ?_, hrun, hcopcr'.trans hcopcr, hcounter'.trans hcounter⟩
    rw [List.map_cons, List.flatten_cons, execAll_append, hfirst]
    exact hrest

end Sys2Proof.Machine
end

section
/-! SUPPORT. The Interrupt Arbiter (43_arbiter.md), inspection (44_system.md sections 2 and 3) and what every applied operation
does to the outputs; with them the statements about them. -/

namespace Sys2Proof.Machine

/-! ### The pending lines -/

/-- Settles O51: one bit of `pending` put, where the line exists. -/
theorem irqLatchesItsLine : Obligations.IrqLatchesItsLine := by
  intro s line
  refine ⟨fun hline hrun => ⟨putBit s.pending line.val true, ?_, fun k hk => ?_⟩, fun hmissing => ?_⟩
  · rw [exec_irq, if_pos hline, whenRunning_of_running hrun]
    rfl
  · rw [putBit_getLsbD _ _ _ _ hk]
    by_cases h : k = line.val <;> simp [h]
  · rw [exec_irq, if_neg (not_lt.mpr hmissing)]

/-- Acknowledging clears the bit of an external source and no other (R235 step 5). -/
theorem acknowledge_getLsbD (src : Source) (pending : Byte) {k : Nat} (hk : k < 8) :
    (acknowledge src pending).getLsbD k =
      (pending.getLsbD k && match src with | .ext line => decide (k ≠ line.val) | .timer => true) := by
  cases src with
  | timer => simp [acknowledge]
  | ext line =>
    rw [acknowledge, putBit_getLsbD _ _ _ _ hk]
    by_cases h : k = line.val <;> simp [h]

/-- The source that is picked is the first pending one of PRIORITY (R237). -/
theorem pickSource_eq_some_iff (cfg : Config) (pending : Byte) (src : Source) :
    pickSource cfg pending = some src ↔
      pending.getLsbD (sourceBit cfg src) = true
        ∧ ∃ before after, cfg.priority = before ++ src :: after
          ∧ ∀ x ∈ before, pending.getLsbD (sourceBit cfg x) = false := by
  simp only [pickSource, List.find?_eq_some_iff_append, Bool.not_eq_true']

theorem exec_service_of_pick {s : State} {src : Source} (hrun : s.Running) (hknown : s.pending &&& knownMask s.cfg ≠ 0#8)
    (hpick : pickSource s.cfg s.pending = some src) :
    exec .service s = .next ((burnAll s.cfg.intAckCycles.toNat (enterService src s)).respond .done) := by
  rw [exec_service, whenRunning_of_running hrun, serviceEntry, if_neg hknown, hpick]

theorem exec_service_next {s t : State} (h : exec .service s = .next t) :
    ∃ src, pickSource s.cfg s.pending = some src
      ∧ t = (burnAll s.cfg.intAckCycles.toNat (enterService src s)).respond .done :=
  serviceEntry_next (whenRunning_next h).2

/-- Settles O52: the entry for the picked source, then the acknowledge cycles as a BURN. -/
theorem serviceDispatchesOneSource : Obligations.ServiceDispatchesOneSource := by
  intro s hrun hcfg hknown
  obtain ⟨src, hpick⟩ := Option.isSome_iff_exists.mp (pickSource_isSome hcfg hknown)
  obtain ⟨hpending, before, after, hpriority, hbefore⟩ := (pickSource_eq_some_iff ..).mp hpick
  refine ⟨before, after, src, acknowledge src s.pending, _, hpriority, hpending, hbefore,
    exec_service_of_pick hrun hknown hpick, ?_, fun k hk => acknowledge_getLsbD src s.pending hk⟩
  have hburn := exec_burn_of_running (s := enterService src s) hrun s.cfg.intAckCycles
  cases src with
  | ext line => exact hburn
  | timer => exact hburn

/-! ### The default priority -/

/-- The default order is by bit of `pending`: the lines below `N_EXT`, then the timer at `N_EXT`. -/
theorem linesThenTimer_sorted (cfg : Config) :
    (Config.linesThenTimer cfg.nExt).Pairwise fun x y => sourceBit cfg x < sourceBit cfg y := by
  rw [Config.linesThenTimer, List.pairwise_append]
  refine ⟨?_, List.pairwise_singleton .., ?_⟩
  · rw [List.pairwise_map]
    exact ((List.pairwise_lt_finRange 8).filter _)
  · intro x hx y hy
    rw [List.mem_singleton] at hy
    subst hy
    simp only [List.mem_map, List.mem_filter, List.mem_finRange, true_and, decide_eq_true_eq] at hx
    obtain ⟨k, hk, rfl⟩ := hx
    exact hk

theorem mem_linesThenTimer (nExt : Fin 8) (k : Fin 8) : Source.ext k ∈ Config.linesThenTimer nExt ↔ k < nExt := by
  simp [Config.linesThenTimer]

/-- With the default order no pending source comes before the picked one in the order of the bits. -/
theorem pickSource_lowest {cfg : Config} {pending : Byte} {src : Source} (hcfg : cfg.priority = Config.linesThenTimer cfg.nExt)
    (hpick : pickSource cfg pending = some src) {x : Source} (hx : x ∈ cfg.priority)
    (hpending : pending.getLsbD (sourceBit cfg x) = true) : sourceBit cfg src ≤ sourceBit cfg x := by
  obtain ⟨-, before, after, hpriority, hbefore⟩ := (pickSource_eq_some_iff ..).mp hpick
  have hsorted := linesThenTimer_sorted cfg
  rw [← hcfg, hpriority, List.pairwise_append, List.pairwise_cons] at hsorted
  rw [hpriority, List.mem_append, List.mem_cons] at hx
  rcases hx with hx | rfl | hx
  · rw [hbefore x hx] at hpending
    cases hpending
  · exact le_refl _
  · exact (hsorted.2.1.1 x hx).le

/-- With the default order the lowest pending line is picked. -/
theorem pickSource_of_lowest_line {cfg : Config} {pending : Byte} {src : Source}
    (hcfg : cfg.priority = Config.linesThenTimer cfg.nExt) (hpick : pickSource cfg pending = some src) {line : Fin 8}
    (hline : line < cfg.nExt) (hpending : pending.getLsbD line.val = true)
    (hlowest : ∀ k : Fin 8, k < line → pending.getLsbD k.val = false) : src = .ext line := by
  have hle := pickSource_lowest hcfg hpick (x := .ext line) (by rw [hcfg, mem_linesThenTimer]; exact hline) hpending
  cases src with
  | timer => exact absurd hline (not_lt.mpr hle)
  | ext k =>
    rcases lt_or_eq_of_le (show k ≤ line from hle) with hlt | rfl
    · have hbit : pending.getLsbD k.val = true := ((pickSource_eq_some_iff ..).mp hpick).1
      rw [hlowest k hlt] at hbit
      cases hbit
    · rfl

/-- With the default order and no line pending it is the timer. -/
theorem pickSource_of_no_line {cfg : Config} {pending : Byte} {src : Source}
    (hcfg : cfg.priority = Config.linesThenTimer cfg.nExt) (hpick : pickSource cfg pending = some src)
    (hnone : ∀ k : Fin 8, k < cfg.nExt → pending.getLsbD k.val = false) : src = .timer := by
  cases src with
  | timer => rfl
  | ext k =>
    obtain ⟨hbit, before, after, hpriority, -⟩ := (pickSource_eq_some_iff ..).mp hpick
    have hk : k < cfg.nExt := by
      rw [← mem_linesThenTimer, ← hcfg, hpriority]
      simp
    rw [sourceBit, hnone k hk] at hbit
    cases hbit

/-- A service entry sends its events first, then those of its burn. -/
theorem service_trace (n : Nat) (src : Source) (s : State) :
    ∃ es, (burnAll n (enterService src s)).trace = s.trace ++ entryEvents s.cfg src ++ es := by
  obtain ⟨es, htrace, -⟩ := burnAll_emits n (enterService src s)
  exact ⟨es, htrace⟩

/-- The bit of a line after a service entry: cleared if the line was picked, else kept. -/
theorem service_line_bit {n : Nat} {src : Source} {s : State} {line : Fin 8} (hline : line < s.cfg.nExt) :
    (burnAll n (enterService src s)).pending.getLsbD line.val =
      (s.pending.getLsbD line.val && decide (src ≠ .ext line)) := by
  rw [burnAll_pending, enterService_cfg, putBit_getLsbD _ _ _ _ line.isLt, if_neg (Nat.ne_of_lt hline), enterService_pending,
    acknowledge_getLsbD src s.pending line.isLt]
  cases src with
  | timer => simp
  | ext k => simp [Fin.ext_iff, eq_comm]

/-- Settles O53: which source the default order picks, and the events of its entry. -/
theorem defaultPriorityOrder : Obligations.DefaultPriorityOrder := by
  intro s t hcfg hexec
  obtain ⟨src, hpick, rfl⟩ := exec_service_next hexec
  obtain ⟨es, htrace⟩ := service_trace s.cfg.intAckCycles.toNat src s
  refine ⟨fun line hline hpending hlowest => ⟨es, ?_, ?_⟩, fun hnone => ⟨es, ?_⟩⟩
  · obtain rfl := pickSource_of_lowest_line hcfg hpick hline hpending hlowest
    exact htrace
  · obtain rfl := pickSource_of_lowest_line hcfg hpick hline hpending hlowest
    rw [State.respond_pending, service_line_bit hline]
    simp
  · obtain rfl := pickSource_of_no_line hcfg hpick hnone
    exact htrace

/-! ### The life of an external bit -/

/-- What an operation `i` that leads from `s` to `t` can make of the bit of an external line (43_arbiter.md R232). -/
inductive LineEffect (s t : State) (line : Fin 8) (i : Instr) : Bool → Prop
  | kept : LineEffect s t line i (s.pending.getLsbD line.val)
  | asserted (hi : i = .irq line) : LineEffect s t line i true
  | acknowledged (hi : i = .service) (hpick : pickSource s.cfg s.pending = some (.ext line))
      (htrace : ∃ es, t.trace = s.trace ++ es ∧ Event.vector (s.cfg.vecExt.get line) ∈ es) : LineEffect s t line i false
  | cleared (fuse : Bool) (hi : i = .reset fuse) : LineEffect s t line i false

/-- The recomputation of the timer's bit leaves a line's bit alone. -/
theorem LineEffect.recomputed {s t : State} {line : Fin 8} {i : Instr} (hline : line < s.cfg.nExt) (b : Bool) :
    LineEffect s t line i ((putBit s.pending s.cfg.nExt.val b).getLsbD line.val) := by
  rw [putBit_getLsbD _ _ _ _ line.isLt, if_neg (Nat.ne_of_lt hline)]
  exact .kept

theorem Applied.lineEffect {s t : State} {i : Instr} (happ : Applied s i t) {line : Fin 8} (hline : line < s.cfg.nExt) :
    LineEffect s t line i (t.pending.getLsbD line.val) := by
  cases happ with
  | writeControl data => exact .recomputed hline _
  | followUp hr haccess =>
    rw [State.respond_pending, State.clearIfSeen_pending]
    split
    · exact .recomputed hline _
    · exact .kept
  | capture rising hopen => exact .recomputed hline _
  | burn n hrun =>
    rw [State.respond_pending, burnAll_pending]
    exact .recomputed hline _
  | irq other hother =>
    dsimp only [State.respond_pending]
    rw [putBit_getLsbD _ _ _ _ line.isLt]
    split
    · next h => exact .asserted (congrArg Instr.irq (Fin.ext h.symm))
    · exact .kept
  | service src hrun hpick =>
    rw [State.respond_pending, service_line_bit hline]
    by_cases hsrc : src = .ext line
    · subst hsrc
      obtain ⟨es, htrace⟩ := service_trace s.cfg.intAckCycles.toNat (.ext line) s
      rw [decide_eq_false (by simp), Bool.and_false]
      exact .acknowledged rfl hpick ⟨entryEvents s.cfg (.ext line) ++ es, by rw [← List.append_assoc]; exact htrace,
        by simp [entryEvents, vectorOf]⟩
    · rw [decide_eq_true hsrc, Bool.and_true]
      exact .kept
  | reset fuse hphase =>
    rw [State.respond_pending, deviceReset_pending, BitVec.getLsbD_zero]
    exact .cleared fuse rfl
  | _ =>
    simp only [State.respond_pending, readPort_pending, writeLatch_pending, writeDirection_pending, State.setPort_pending,
      State.setTimer_pending, State.setPcop_pending, State.setNcop_pending]
    exact .kept

/-- Settles O54: each effect on the line's bit. -/
theorem externalBitLife : Obligations.ExternalBitLife := by
  intro i s t line hline hexec
  have heffect := (applied_of_exec hexec).lineEffect hline
  generalize t.pending.getLsbD line.val = b at heffect
  cases heffect with
  | kept =>
    refine ⟨fun h h' => ?_, fun h h' => ?_⟩
    · rw [h] at h'; cases h'
    · rw [h] at h'; cases h'
  | asserted hi => exact ⟨fun _ _ => hi, nofun⟩
  | acknowledged hi hpick htrace => exact ⟨nofun, fun _ _ => .inr ⟨hi, hpick, htrace⟩⟩
  | cleared fuse hi => exact ⟨nofun, fun _ _ => .inl ⟨fuse, hi⟩⟩

/-! ### Inspection -/

/-- The RD of a register whose value the block defines returns the byte that its PEEK returns, whatever else it does. -/
theorem exec_readInspectPairs {rd peek : Instr} (h : (rd, peek) ∈ readInspectPairs) (s : State) :
    ∃ (v : Byte) (u : State), exec rd s = whenRunning s (.next (u.respond (.data v))) ∧ u.results = s.results
      ∧ exec peek s = .next (s.respond (.data v)) := by
  simp only [readInspectPairs, List.mem_cons, List.not_mem_nil, or_false, Prod.mk.injEq] at h
  rcases h with ⟨rfl, rfl⟩ | ⟨rfl, rfl⟩ | ⟨rfl, rfl⟩ | ⟨rfl, rfl⟩ | ⟨rfl, rfl⟩ | ⟨rfl, rfl⟩ | ⟨rfl, rfl⟩ | ⟨rfl, rfl⟩ |
    ⟨rfl, rfl⟩ | ⟨rfl, rfl⟩ | ⟨rfl, rfl⟩ | ⟨rfl, rfl⟩ | ⟨rfl, rfl⟩ <;> refine ⟨_, _, rfl, ?_, rfl⟩ <;> simp

/-- Settles O55: an inspection is a response and perhaps a free byte; the RD and the PEEK of a register answer the same. -/
theorem inspectionChangesNothing : Obligations.InspectionChangesNothing := by
  refine ⟨fun i s h => exec_inspection h s, fun op hop s t hexec => ?_, fun s t hp hexec => ?_, fun p s => ?_⟩
  · obtain ⟨v, u, hrd, hresults, hpeek⟩ := exec_readInspectPairs hop s
    rw [hrd] at hexec
    obtain ⟨-, hnext⟩ := whenRunning_next hexec
    cases hnext
    exact ⟨v, by rw [State.respond_results, hresults], hpeek⟩
  · rw [exec_rdCopcr_of_hasPcop hp] at hexec
    obtain ⟨-, hnext⟩ := whenRunning_next hexec
    cases hnext
    exact ⟨_, rfl, exec_peekCopcr_of_hasPcop hp⟩
  · cases p <;> rfl

/-- Settles O56: the list of `exportItems`, for each variant. -/
theorem exportListsNamedState : Obligations.ExportListsNamedState := by
  intro s
  refine ⟨exportItems s, exec_exportState s, rfl, ?_⟩
  cases hp : s.cfg.hasPcop <;> cases hn : s.cfg.hasNcop <;> simp [exportItems, hp, hn]

/-! ### One response -/

/-- Every applied operation answers once, not with a refusal, and touches neither the configuration nor the waiting words. -/
theorem Applied.answers_once {s t : State} {i : Instr} (happ : Applied s i t) :
    t.cfg = s.cfg ∧ t.ops = s.ops ∧ ∃ r, t.results = s.results ++ [r] ∧ ∀ why, r ≠ .refused why := by
  cases happ with
  | quiet hi hr => exact ⟨rfl, rfl, _, rfl, hr⟩
  | timerElement hr haccess => exact ⟨rfl, rfl, _, rfl, hr⟩
  | followUp hr haccess => exact ⟨by simp, by simp, _, by simp, hr⟩
  | pcopAccess hr haccess => exact ⟨rfl, rfl, _, rfl, hr⟩
  | readPort p => exact ⟨rfl, rfl, _, rfl, nofun⟩
  | _ => exact ⟨by simp, by simp, .done, by simp, nofun⟩

/-- The last compare-output event of a trace decides (R51). -/
theorem lastTcmp_of_last {before after : List Event} {level : Bool} (h : tcmpEvents after = []) :
    lastTcmp (before ++ .tcmp level :: after) = some level := by
  rw [lastTcmp_append, lastTcmp, (lastTcmp_eq_none after).mpr h]
  rfl

/-- Settles O57: the pin is a function of the compare-output events alone once there is one. -/
theorem oneResponsePerOperation : Obligations.OneResponsePerOperation := by
  intro i s t hexec
  have happ := applied_of_exec hexec
  obtain ⟨hcfg, hops, hresponse⟩ := happ.answers_once
  obtain ⟨es, htrace, -⟩ := happ.emission
  refine ⟨hcfg, hops, ⟨es, htrace⟩, fun before after level hlast hnone => ?_, fun hsame hsome => ?_, hresponse⟩
  · refine comparePin_of_lastTcmp ?_
    rw [hlast, lastTcmp_of_last hnone]
  · have hlevel : lastTcmp t.trace = lastTcmp s.trace := by rw [← lastTcmp_tcmpEvents, hsame, lastTcmp_tcmpEvents]
    obtain ⟨level, hs⟩ := Option.ne_none_iff_exists'.mp (mt (lastTcmp_eq_none s.trace).mp hsome)
    rw [comparePin_of_lastTcmp hs, comparePin_of_lastTcmp (hlevel.trans hs)]

end Sys2Proof.Machine
end
